-- ==== Sys2Proof/Word.lean ====
section
/-! DEFINITION. The widths the spec names: u8, u16, u32 (spec rule R7), the 19-bit RAM byte index (R5, R23, R46)
and the voice number (R5, R62). Nothing here is arithmetic that a test could show wrong. -/

namespace Sys2Proof

/-- `u8` of R7: one byte of the audio RAM. -/
abbrev Byte := BitVec 8

/-- `u16`, and the bits of an `s16`, of R7: the width of every register access (R50). -/
abbrev Half := BitVec 16

/-- `u32` of R7: a transaction word (R61), a DMA word (R124), the KON, KOFF, ENDX and EON registers (R19 to R21). -/
abbrev Word := BitVec 32

/-- A byte index into the 0x80000-byte audio RAM. Nineteen bits, so arithmetic on it is modulo `RAM_SIZE`, which is
what R46 asks of every RAM index. -/
abbrev RamIndex := BitVec 19

/-- A register offset as the transaction word carries it: bits 25:16 (R61). -/
abbrev Offset := BitVec 10

/-- A voice number, 0 to 23 (R5 `NUM_VOICES`). -/
abbrev VoiceId := Fin 24

/-- The 24 voices in the ascending order of R145. -/
def allVoices : List VoiceId := List.finRange 24

/-- The 28 sample positions of a block in the ascending order of R142. -/
def sampleIndices : List (Fin 28) := List.finRange 28

end Sys2Proof
end

