-- ==== Sys2Proof/Config.lean ====
section
/-! DEFINITION. The parameters of the block (spec rule R5). The fixed constants have their values; an open parameter is a
constant without a body, so that no proof can see its value and a claim holds whatever it is. -/

namespace Sys2Proof.Config

/-- `NUM_VOICES` (R5). -/
abbrev numVoices : Nat := 24
/-- `RAM_SIZE` in bytes (R5). -/
abbrev ramSize : Nat := 0x80000
/-- `VOICE_UNIT`: bytes per voice-address unit (R5, R70). -/
abbrev voiceUnit : Nat := 8
/-- `BLOCK_BYTES` (R5, R68). -/
abbrev blockBytes : Nat := 16
/-- `SAMPLES_PER_BLOCK` (R5, R68). -/
abbrev samplesPerBlock : Nat := 28
/-- `TICKS_PER_SAMPLE` in source-clock ticks (R5, R144). -/
abbrev ticksPerSample : Nat := 0x300
/-- `PITCH_MAX` (R5, R151). -/
abbrev pitchMax : Nat := 0x4000
/-- `REG_WINDOW_BYTES` (R5, R53). -/
abbrev regWindowBytes : Nat := 0x280

/-- `GAUSS : Fin 512 → s16` (R5, decision D16). The spec gives no value: free (log entry 6). -/
opaque gauss : Fin 512 → Half

/-- `DECODE_VOLUME : u16 -> s16` (R5, decision D10), read for a register with bit 15 = 0. The spec leaves it open: free. The default
its vectors take is `Machine.defaultDecodeVolume` (log entry 7). -/
opaque decodeVolume : Half → Half

/-- `DECODE_VOLUME` of a register with bit 15 = 1 (R31, decision D10): a draw, any `s16`. The first argument is the number
of the draw, so that no two draws are tied together; a function of the register alone is one such choice (log entry 8). -/
opaque sweepVolume : Nat → Half → Half

/-- One less than `CD_FIFO_CAPACITY`, which is at least 1 (R5, decision D17): free (log entry 9). -/
opaque cdFifoCapacityLessOne : Nat

/-- `ENDX_CLEAR_ON_KEYON` (R5, decision D13; the spec's vectors take false): free (log entry 10). -/
opaque endxClearOnKeyOn : Bool

/-- `REG_BASE` (R5, decision D3; the spec's default is 0x1F801C00). No rule reads it (log entry 11). -/
opaque regBase : Word

/-- The open parameters as one argument: 'A model takes each open parameter as an argument' (R5). -/
structure Params where
  /-- `REG_BASE`. -/
  regBase : Word
  /-- `GAUSS`. -/
  gauss : Fin 512 → Half
  /-- `DECODE_VOLUME` for bit 15 = 0. -/
  decodeVolume : Half → Half
  /-- `DECODE_VOLUME` for bit 15 = 1, by draw number and register value. -/
  sweepVolume : Nat → Half → Half
  /-- `CD_FIFO_CAPACITY - 1`. -/
  cdFifoCapacityLessOne : Nat
  /-- `ENDX_CLEAR_ON_KEYON`. -/
  endxClearOnKeyOn : Bool

/-- `CD_FIFO_CAPACITY`, a natural of at least 1 (R5). -/
def Params.cdFifoCapacity (p : Params) : Nat := p.cdFifoCapacityLessOne + 1

/-- The parameters of the machine `exec` is about: all of them free. -/
def params : Params where
  regBase := regBase
  gauss := gauss
  decodeVolume := decodeVolume
  sweepVolume := sweepVolume
  cdFifoCapacityLessOne := cdFifoCapacityLessOne
  endxClearOnKeyOn := endxClearOnKeyOn

/-- The bus addresses of the register window are `REG_BASE + 0x000 ..= REG_BASE + 0x27F` (R53): the offset a bus address
stands for, if it lies in the window. The transactions carry the offset. -/
def Params.windowOffset (p : Params) (address : Word) : Option Offset :=
  if (address - p.regBase).toNat < regWindowBytes then some (BitVec.ofNat 10 (address - p.regBase).toNat) else none

end Sys2Proof.Config
end

