-- ==== Sys2Proof/Syntax.lean ====
section
/-! DEFINITION. The transactions of the block (spec 30_encoding.md): the transaction word with the payload that
travels beside it, and the inductive of all transactions, one constructor for each row of opcode_table.json. -/

namespace Sys2Proof

/-- The payload lanes beside a transaction word (R61, R67, R73). The kind in the word tells which lane a transaction
reads; the others are not read. A lane nobody drives holds 0 or the empty list. DESIGN CHOICE (log entry 2): the spec
fixes which payload goes with which kind and no wire format. -/
structure Payload where
  /-- `n` of DMA_READ. -/
  count : Nat := 0
  /-- The words of DMA_WRITE. -/
  words : List Word := []
  /-- `ticks` of EXECUTE. -/
  ticks : Nat := 0
  /-- `L` of CD_PUSH, an `s16`. -/
  left : Half := 0
  /-- `R` of CD_PUSH, an `s16`. -/
  right : Half := 0
  /-- `t_sync`, the catch-up the scheduler runs before a synchronized write (R73): any natural (log entry 3). -/
  tSync : Nat := 0
  deriving DecidableEq, Repr

/-- One offered transaction: its 32-bit word and its payload (R61). -/
structure Request where
  word : Word
  payload : Payload := {}
  deriving DecidableEq, Repr

/-- The transactions the block accepts (R4, R63, R64), one constructor for each row of opcode_table.json. A write that R73
can synchronize carries `tSync`. -/
inductive Instr where
  /-- Row RD_VOL_L, R74: read `V[voice].volume_left`. -/
  | rdVolL (voice : VoiceId)
  /-- Row WR_VOL_L, R75: write `V[voice].volume_left`, synchronized while the voice is on. -/
  | wrVolL (voice : VoiceId) (data : Half) (tSync : Nat)
  /-- Row RD_VOL_R, R76: read `V[voice].volume_right`. -/
  | rdVolR (voice : VoiceId)
  /-- Row WR_VOL_R, R77: write `V[voice].volume_right`, synchronized while the voice is on. -/
  | wrVolR (voice : VoiceId) (data : Half) (tSync : Nat)
  /-- Row RD_PITCH, R78: read `V[voice].adpcm_sample_rate`. -/
  | rdPitch (voice : VoiceId)
  /-- Row WR_PITCH, R79: write `V[voice].adpcm_sample_rate`, synchronized while the voice is on. -/
  | wrPitch (voice : VoiceId) (data : Half) (tSync : Nat)
  /-- Row RD_SADDR, R80: read `V[voice].adpcm_start_address`. -/
  | rdSaddr (voice : VoiceId)
  /-- Row WR_SADDR, R81: write `V[voice].adpcm_start_address`, synchronized while the voice is on. -/
  | wrSaddr (voice : VoiceId) (data : Half) (tSync : Nat)
  /-- Row RD_ADSR_LO, R82: read `V[voice].adsr_low`. -/
  | rdAdsrLo (voice : VoiceId)
  /-- Row WR_ADSR_LO, R83: write `V[voice].adsr_low`, synchronized while the voice is on. -/
  | wrAdsrLo (voice : VoiceId) (data : Half) (tSync : Nat)
  /-- Row RD_ADSR_HI, R84: read `V[voice].adsr_high`. -/
  | rdAdsrHi (voice : VoiceId)
  /-- Row WR_ADSR_HI, R85: write `V[voice].adsr_high`, synchronized while the voice is on. -/
  | wrAdsrHi (voice : VoiceId) (data : Half) (tSync : Nat)
  /-- Row RD_ADSR_VOL, R86: read `V[voice].adsr_volume`. -/
  | rdAdsrVol (voice : VoiceId)
  /-- Row WR_ADSR_VOL, R87: write `V[voice].adsr_volume`, synchronized while the voice is on. -/
  | wrAdsrVol (voice : VoiceId) (data : Half) (tSync : Nat)
  /-- Row RD_RADDR, R88: read `V[voice].adpcm_repeat_address`. -/
  | rdRaddr (voice : VoiceId)
  /-- Row WR_RADDR, R89: write `V[voice].adpcm_repeat_address`, synchronized while the voice is on. -/
  | wrRaddr (voice : VoiceId) (data : Half) (tSync : Nat)
  /-- Row RD_MVOL_L, R90: read `MAIN_VOL_L`. -/
  | rdMvolL
  /-- Row WR_MVOL_L, R91: write `MAIN_VOL_L`, synchronized. -/
  | wrMvolL (data : Half) (tSync : Nat)
  /-- Row RD_MVOL_R, R92: read `MAIN_VOL_R`. -/
  | rdMvolR
  /-- Row WR_MVOL_R, R93: write `MAIN_VOL_R`, synchronized. -/
  | wrMvolR (data : Half) (tSync : Nat)
  /-- Row RD_KON_LO, R94: read `KON[15:0]`. -/
  | rdKonLo
  /-- Row WR_KON_LO, R95: write `KON[15:0]`, synchronized. -/
  | wrKonLo (data : Half) (tSync : Nat)
  /-- Row RD_KON_HI, R96: read `KON[31:16]`. -/
  | rdKonHi
  /-- Row WR_KON_HI, R97: write `KON[31:16]`, synchronized. -/
  | wrKonHi (data : Half) (tSync : Nat)
  /-- Row RD_KOFF_LO, R98: read `KOFF[15:0]`. -/
  | rdKoffLo
  /-- Row WR_KOFF_LO, R99: write `KOFF[15:0]`, synchronized. -/
  | wrKoffLo (data : Half) (tSync : Nat)
  /-- Row RD_KOFF_HI, R100: read `KOFF[31:16]`. -/
  | rdKoffHi
  /-- Row WR_KOFF_HI, R101: write `KOFF[31:16]`, synchronized. -/
  | wrKoffHi (data : Half) (tSync : Nat)
  /-- Row RD_EON_LO, R102: read `EON[15:0]`. -/
  | rdEonLo
  /-- Row WR_EON_LO, R103: write `EON[15:0]`, synchronized. -/
  | wrEonLo (data : Half) (tSync : Nat)
  /-- Row RD_EON_HI, R104: read `EON[31:16]`. -/
  | rdEonHi
  /-- Row WR_EON_HI, R105: write `EON[31:16]`, synchronized. -/
  | wrEonHi (data : Half) (tSync : Nat)
  /-- Row RD_ENDX_LO, R106: read `ENDX[15:0]`. -/
  | rdEndxLo
  /-- Row WR_ENDX_LO, R107: write `ENDX[15:0]`. -/
  | wrEndxLo (data : Half)
  /-- Row RD_ENDX_HI, R108: read `ENDX[31:16]`. -/
  | rdEndxHi
  /-- Row WR_ENDX_HI, R109: write `ENDX[31:16]`. -/
  | wrEndxHi (data : Half)
  /-- Row RD_IRQ_ADDR, R110: read `IRQ_ADDR`. -/
  | rdIrqAddr
  /-- Row WR_IRQ_ADDR, R111: write `IRQ_ADDR`. -/
  | wrIrqAddr (data : Half)
  /-- Row RD_TADDR, R112: read `TADDR`. -/
  | rdTaddr
  /-- Row WR_TADDR, R113: write `TADDR`. -/
  | wrTaddr (data : Half)
  /-- Row RD_TDATA, R114: read `TDATA`. -/
  | rdTdata
  /-- Row WR_TDATA, R115: write `TDATA`. -/
  | wrTdata (data : Half)
  /-- Row RD_SPUCNT, R116: read `SPUCNT`. -/
  | rdSpucnt
  /-- Row WR_SPUCNT, R117: write `SPUCNT`. -/
  | wrSpucnt (data : Half)
  /-- Row RD_SPUSTAT, R118: read `SPUSTAT`. -/
  | rdSpustat
  /-- Row WR_SPUSTAT, R119: write `SPUSTAT`. -/
  | wrSpustat (data : Half)
  /-- Row RD_UNKNOWN, R120: read an unknown offset of R64. -/
  | rdUnknown (off : Offset)
  /-- Row WR_UNKNOWN, R121: write an unknown offset of R64. -/
  | wrUnknown (off : Offset) (data : Half)
  /-- Row DMA_READ, R125: the DMA controller reads `n` 32-bit words. -/
  | dmaRead (n : Nat)
  /-- Row DMA_WRITE, R124: the DMA controller writes a list of 32-bit words. -/
  | dmaWrite (words : List Word)
  /-- Row EXECUTE, R144: the scheduler delivers `ticks` source-clock ticks. -/
  | execute (ticks : Nat)
  /-- Row CD_PUSH, R161: the CD source adds one frame. -/
  | cdPush (left right : Half)
  /-- Row RESET, R177. -/
  | reset
  deriving DecidableEq, Repr

end Sys2Proof
end

