-- ==== Sys2Proof/WellFormed.lean ====
section
/-! DEFINITION. Which terms of Instr are transactions of the block. A voice number is in range by its type (R62), so the one
check left is that the offset of an unknown-register access is one of the unknown offsets of R64. -/

namespace Sys2Proof

/-- The unknown offsets, as R64 lists them: 0x184, 0x186, 0x190 to 0x196, 0x1A0, 0x1A2, 0x1AC and 0x1B0 to 0x27E, even ones. -/
def isUnknownOffset (off : Offset) : Bool :=
  off.toNat % 2 == 0 &&
    (off.toNat == 0x184 || off.toNat == 0x186 || (0x190 ≤ off.toNat && off.toNat ≤ 0x196) ||
      off.toNat == 0x1A0 || off.toNat == 0x1A2 || off.toNat == 0x1AC ||
      (0x1B0 ≤ off.toNat && off.toNat ≤ 0x27E))

/-- Well-formedness of a transaction (R63, R64, R120, R121). -/
def Instr.wellFormed : Instr → Bool
  | .rdVolL _ => true
  | .wrVolL _ _ _ => true
  | .rdVolR _ => true
  | .wrVolR _ _ _ => true
  | .rdPitch _ => true
  | .wrPitch _ _ _ => true
  | .rdSaddr _ => true
  | .wrSaddr _ _ _ => true
  | .rdAdsrLo _ => true
  | .wrAdsrLo _ _ _ => true
  | .rdAdsrHi _ => true
  | .wrAdsrHi _ _ _ => true
  | .rdAdsrVol _ => true
  | .wrAdsrVol _ _ _ => true
  | .rdRaddr _ => true
  | .wrRaddr _ _ _ => true
  | .rdMvolL => true
  | .wrMvolL _ _ => true
  | .rdMvolR => true
  | .wrMvolR _ _ => true
  | .rdKonLo => true
  | .wrKonLo _ _ => true
  | .rdKonHi => true
  | .wrKonHi _ _ => true
  | .rdKoffLo => true
  | .wrKoffLo _ _ => true
  | .rdKoffHi => true
  | .wrKoffHi _ _ => true
  | .rdEonLo => true
  | .wrEonLo _ _ => true
  | .rdEonHi => true
  | .wrEonHi _ _ => true
  | .rdEndxLo => true
  | .wrEndxLo _ => true
  | .rdEndxHi => true
  | .wrEndxHi _ => true
  | .rdIrqAddr => true
  | .wrIrqAddr _ => true
  | .rdTaddr => true
  | .wrTaddr _ => true
  | .rdTdata => true
  | .wrTdata _ => true
  | .rdSpucnt => true
  | .wrSpucnt _ => true
  | .rdSpustat => true
  | .wrSpustat _ => true
  | .rdUnknown off => isUnknownOffset off
  | .wrUnknown off _ => isUnknownOffset off
  | .dmaRead _ => true
  | .dmaWrite _ => true
  | .execute _ => true
  | .cdPush _ _ => true
  | .reset => true

end Sys2Proof
end

