-- ==== Sys2Proof/Decode.lean ====
section
/-! DEFINITION. The decoder of transaction words (spec 30_encoding.md R61 to R67), total and refusing by name, then the
encoder, and the transaction notation of R71 and R72. -/

namespace Sys2Proof

/-- Why a word is not a transaction of this block: the clauses of R66, in its order. -/
inductive DecodeError where
  /-- `kind = 7`. -/
  | reservedKind
  /-- `word[28:26] != 0`. -/
  | zeroFieldSet
  /-- A register access at an odd offset. -/
  | oddOffset
  /-- A register access at an offset of 0x280 or above. -/
  | offsetBeyondWindow
  /-- Bits 25:0 not 0 on a kind that has no offset and no data. -/
  | controlBitsSet
  deriving DecidableEq, Repr

/-- `word[31:29]` (R61). -/
def kindField (w : Word) : BitVec 3 := w.extractLsb' 29 3

/-- `word[28:26]` (R61). -/
def zeroField (w : Word) : BitVec 3 := w.extractLsb' 26 3

/-- `word[25:16]` (R61, R62). -/
def offField (w : Word) : Offset := w.extractLsb' 16 10

/-- `word[15:0]`, used unchanged (R62). -/
def dataField (w : Word) : Half := w.extractLsb' 0 16

/-- `reg = (off >> 1) & 7` (R62). -/
def regOfOffset (off : Offset) : Fin 8 := (off.extractLsb' 1 3).toFin

/-- The voice-register row of register number `reg` for a read (R30, R63). -/
def voiceRead (voice : VoiceId) (reg : Fin 8) : Instr :=
  match reg with
  | 0 => .rdVolL voice
  | 1 => .rdVolR voice
  | 2 => .rdPitch voice
  | 3 => .rdSaddr voice
  | 4 => .rdAdsrLo voice
  | 5 => .rdAdsrHi voice
  | 6 => .rdAdsrVol voice
  | 7 => .rdRaddr voice

/-- The voice-register row of register number `reg` for a write (R30, R63). -/
def voiceWrite (voice : VoiceId) (reg : Fin 8) (data : Half) (tSync : Nat) : Instr :=
  match reg with
  | 0 => .wrVolL voice data tSync
  | 1 => .wrVolR voice data tSync
  | 2 => .wrPitch voice data tSync
  | 3 => .wrSaddr voice data tSync
  | 4 => .wrAdsrLo voice data tSync
  | 5 => .wrAdsrHi voice data tSync
  | 6 => .wrAdsrVol voice data tSync
  | 7 => .wrRaddr voice data tSync

/-- The global-register row at an even offset from 0x180 for a read (R63); an offset not listed is unknown (R64). -/
def globalRead (off : Offset) : Instr :=
  if off = 0x180#10 then .rdMvolL
  else if off = 0x182#10 then .rdMvolR
  else if off = 0x188#10 then .rdKonLo
  else if off = 0x18A#10 then .rdKonHi
  else if off = 0x18C#10 then .rdKoffLo
  else if off = 0x18E#10 then .rdKoffHi
  else if off = 0x198#10 then .rdEonLo
  else if off = 0x19A#10 then .rdEonHi
  else if off = 0x19C#10 then .rdEndxLo
  else if off = 0x19E#10 then .rdEndxHi
  else if off = 0x1A4#10 then .rdIrqAddr
  else if off = 0x1A6#10 then .rdTaddr
  else if off = 0x1A8#10 then .rdTdata
  else if off = 0x1AA#10 then .rdSpucnt
  else if off = 0x1AE#10 then .rdSpustat
  else .rdUnknown off

/-- The global-register row at an even offset from 0x180 for a write (R63); an offset not listed is unknown (R64). -/
def globalWrite (off : Offset) (data : Half) (tSync : Nat) : Instr :=
  if off = 0x180#10 then .wrMvolL data tSync
  else if off = 0x182#10 then .wrMvolR data tSync
  else if off = 0x188#10 then .wrKonLo data tSync
  else if off = 0x18A#10 then .wrKonHi data tSync
  else if off = 0x18C#10 then .wrKoffLo data tSync
  else if off = 0x18E#10 then .wrKoffHi data tSync
  else if off = 0x198#10 then .wrEonLo data tSync
  else if off = 0x19A#10 then .wrEonHi data tSync
  else if off = 0x19C#10 then .wrEndxLo data
  else if off = 0x19E#10 then .wrEndxHi data
  else if off = 0x1A4#10 then .wrIrqAddr data
  else if off = 0x1A6#10 then .wrTaddr data
  else if off = 0x1A8#10 then .wrTdata data
  else if off = 0x1AA#10 then .wrSpucnt data
  else if off = 0x1AE#10 then .wrSpustat data
  else .wrUnknown off data

/-- A REG_READ at `off`: refused when odd or beyond the window (R66), a voice register below 0x180 (R62). -/
def decodeRegRead (off : Offset) : Except DecodeError Instr :=
  if off.toNat % 2 = 1 then .error .oddOffset
  else if 0x280 ≤ off.toNat then .error .offsetBeyondWindow
  else if h : off.toNat / 16 < 24 then .ok (voiceRead ⟨off.toNat / 16, h⟩ (regOfOffset off))
  else .ok (globalRead off)

/-- A REG_WRITE at `off`: as `decodeRegRead`. -/
def decodeRegWrite (off : Offset) (data : Half) (tSync : Nat) : Except DecodeError Instr :=
  if off.toNat % 2 = 1 then .error .oddOffset
  else if 0x280 ≤ off.toNat then .error .offsetBeyondWindow
  else if h : off.toNat / 16 < 24 then .ok (voiceWrite ⟨off.toNat / 16, h⟩ (regOfOffset off) data tSync)
  else .ok (globalWrite off data tSync)

/-- The kinds that carry neither offset nor data: 2 DMA_READ, 3 DMA_WRITE, 4 EXECUTE, 5 CD_PUSH, 6 RESET (R61). -/
def decodeControl (kind : BitVec 3) (p : Payload) : Except DecodeError Instr :=
  if kind = 2#3 then .ok (.dmaRead p.count)
  else if kind = 3#3 then .ok (.dmaWrite p.words)
  else if kind = 4#3 then .ok (.execute p.ticks)
  else if kind = 5#3 then .ok (.cdPush p.left p.right)
  else .ok .reset

/-- The decoder (R61, R66, R67): the kind tells which fields and which payload lane a transaction has. -/
def decode (r : Request) : Except DecodeError Instr :=
  if kindField r.word = 7#3 then .error .reservedKind
  else if zeroField r.word ≠ 0#3 then .error .zeroFieldSet
  else if kindField r.word = 0#3 then decodeRegRead (offField r.word)
  else if kindField r.word = 1#3 then decodeRegWrite (offField r.word) (dataField r.word) r.payload.tSync
  else if r.word.extractLsb' 0 26 ≠ 0#26 then .error .controlBitsSet
  else decodeControl (kindField r.word) r.payload

/-- The word `kind << 29 | off << 16 | data` (R61). -/
def makeWord (kind : BitVec 3) (off : Offset) (data : Half) : Word := kind ++ 0#3 ++ off ++ data

/-- `off = 16v + 2 reg` (R62, R63). -/
def voiceOffset (voice : VoiceId) (reg : Fin 8) : Offset := BitVec.ofNat 10 (16 * voice.val + 2 * reg.val)

/-- REG_READ at a raw offset: `RD off` (R71). The ignored data field is written as 0. -/
def Request.rd (off : Offset) : Request := { word := makeWord 0#3 off 0#16 }

/-- REG_WRITE at a raw offset: `WR off, data ; sync t` (R71). -/
def Request.wr (off : Offset) (data : Half) (tSync : Nat := 0) : Request :=
  { word := makeWord 1#3 off data, payload := { tSync := tSync } }

/-- A transaction that has only a payload beside its kind (R61). -/
def Request.control (kind : BitVec 3) (p : Payload) : Request := { word := makeWord kind 0#10 0#16, payload := p }

/-- The encoder: the word and payload of each transaction, from R61 and the offsets of R63. -/
def encode : Instr → Request
  | .rdVolL voice => .rd (voiceOffset voice 0)
  | .wrVolL voice data tSync => .wr (voiceOffset voice 0) data tSync
  | .rdVolR voice => .rd (voiceOffset voice 1)
  | .wrVolR voice data tSync => .wr (voiceOffset voice 1) data tSync
  | .rdPitch voice => .rd (voiceOffset voice 2)
  | .wrPitch voice data tSync => .wr (voiceOffset voice 2) data tSync
  | .rdSaddr voice => .rd (voiceOffset voice 3)
  | .wrSaddr voice data tSync => .wr (voiceOffset voice 3) data tSync
  | .rdAdsrLo voice => .rd (voiceOffset voice 4)
  | .wrAdsrLo voice data tSync => .wr (voiceOffset voice 4) data tSync
  | .rdAdsrHi voice => .rd (voiceOffset voice 5)
  | .wrAdsrHi voice data tSync => .wr (voiceOffset voice 5) data tSync
  | .rdAdsrVol voice => .rd (voiceOffset voice 6)
  | .wrAdsrVol voice data tSync => .wr (voiceOffset voice 6) data tSync
  | .rdRaddr voice => .rd (voiceOffset voice 7)
  | .wrRaddr voice data tSync => .wr (voiceOffset voice 7) data tSync
  | .rdMvolL => .rd 0x180#10
  | .wrMvolL data tSync => .wr 0x180#10 data tSync
  | .rdMvolR => .rd 0x182#10
  | .wrMvolR data tSync => .wr 0x182#10 data tSync
  | .rdKonLo => .rd 0x188#10
  | .wrKonLo data tSync => .wr 0x188#10 data tSync
  | .rdKonHi => .rd 0x18A#10
  | .wrKonHi data tSync => .wr 0x18A#10 data tSync
  | .rdKoffLo => .rd 0x18C#10
  | .wrKoffLo data tSync => .wr 0x18C#10 data tSync
  | .rdKoffHi => .rd 0x18E#10
  | .wrKoffHi data tSync => .wr 0x18E#10 data tSync
  | .rdEonLo => .rd 0x198#10
  | .wrEonLo data tSync => .wr 0x198#10 data tSync
  | .rdEonHi => .rd 0x19A#10
  | .wrEonHi data tSync => .wr 0x19A#10 data tSync
  | .rdEndxLo => .rd 0x19C#10
  | .wrEndxLo data => .wr 0x19C#10 data
  | .rdEndxHi => .rd 0x19E#10
  | .wrEndxHi data => .wr 0x19E#10 data
  | .rdIrqAddr => .rd 0x1A4#10
  | .wrIrqAddr data => .wr 0x1A4#10 data
  | .rdTaddr => .rd 0x1A6#10
  | .wrTaddr data => .wr 0x1A6#10 data
  | .rdTdata => .rd 0x1A8#10
  | .wrTdata data => .wr 0x1A8#10 data
  | .rdSpucnt => .rd 0x1AA#10
  | .wrSpucnt data => .wr 0x1AA#10 data
  | .rdSpustat => .rd 0x1AE#10
  | .wrSpustat data => .wr 0x1AE#10 data
  | .rdUnknown off => .rd off
  | .wrUnknown off data => .wr off data
  | .dmaRead n => .control 2#3 { count := n }
  | .dmaWrite words => .control 3#3 { words := words }
  | .execute ticks => .control 4#3 { ticks := ticks }
  | .cdPush left right => .control 5#3 { left := left, right := right }
  | .reset => .control 6#3 {}

/-- `WR32 off, v`: a 32-bit host store is two transactions, low half first (R50, R72). -/
def Request.wr32 (off : Offset) (v : Word) : List Request :=
  [.wr off (v.extractLsb' 0 16), .wr (off + 2) (v.extractLsb' 16 16)]

/-- `RD32 off`: a 32-bit host load is two transactions, low half first (R50, R72). -/
def Request.rd32 (off : Offset) : List Request := [.rd off, .rd (off + 2)]

/-- `KON m` for a 24-bit voice mask (R72). -/
def Request.kon (m : BitVec 24) : List Request :=
  [.wr 0x188#10 (m.extractLsb' 0 16), .wr 0x18A#10 ((m.extractLsb' 16 8).zeroExtend 16)]

/-- `KOFF m` for a 24-bit voice mask (R72). -/
def Request.koff (m : BitVec 24) : List Request :=
  [.wr 0x18C#10 (m.extractLsb' 0 16), .wr 0x18E#10 ((m.extractLsb' 16 8).zeroExtend 16)]

/-- `UPLOAD a, h0, h1, …` (R72). -/
def Request.upload (a : Half) (hs : List Half) : List Request := .wr 0x1A6#10 a :: hs.map (fun h => .wr 0x1A8#10 h)

/-- `EXECN k`, for a state whose `ticks_carry` is 0 (R72). -/
def Request.execN (k : Nat) : Request := encode (.execute (0x300 * k))

/-- The request the host's table row stands for: a word of the row and nothing on the payload lanes. Every transaction
word is 32 bits (R67), so bits above `nbits`, and above bit 31, are 0. -/
def tableRequest (nbits w : Nat) : Request := { word := BitVec.ofNat 32 (w % 2 ^ nbits) }

/-- What the decoder reads from a table row's word `w` of `nbits` bits (none where it refuses). -/
def decodeTableWord (nbits w : Nat) : Option Instr :=
  match decode (tableRequest nbits w) with
  | .ok i => some i
  | .error _ => none

end Sys2Proof
end

