-- ==== Sys2Proof/Machine/State.lean ====
section
/-! DEFINITION. The state of the block as plain data (spec 10_state.md R12: global registers and lines, 24 voice records, the
audio RAM, the output history), with the model's own three fields (inbox, reply, draws), and the state after reset (R177). -/

namespace Sys2Proof.Machine

/-- The block has no fault: 'No transaction faults, traps or is aborted' (R163). The type has no constructor, so a fault
outcome cannot be built. Safe: the spec gives every accepted transaction an effect. -/
inductive Fault
  deriving DecidableEq, Repr

/-- Why a step has no meaning to run. -/
inductive Refusal where
  /-- Raised by exec's arm of an instruction that has no meaning yet. Safe: nothing is claimed of the instruction. -/
  | notModelled (mnemonic : String)
  /-- Raised by step for a word that is not a transaction of this block (R66), with the clause of R66 that refuses it. The
  spec gives such a word no effect; safe. -/
  | notATransaction (why : DecodeError)
  deriving DecidableEq, Repr

/-- One stereo frame: a pair of `s16` (R11, R147). -/
structure Frame where
  left : Half
  right : Half
  deriving DecidableEq, Repr

/-- One record of `irq_rise()`: a 0-to-1 change of the SPU IRQ line (R9, R167). It carries no data. -/
inductive IrqEvent where
  | rise
  deriving DecidableEq, Repr

/-- The codes of the diagnostic log (R164). -/
inductive DiagCode where
  /-- Code 1, an access to an unknown offset (R120, R121). -/
  | unknownRegister
  /-- Code 2, a read of TDATA (R114). -/
  | transferDataRead
  /-- Code 3, a CD push into a full FIFO (R161). -/
  | cdFifoOverflow
  /-- Code 4, which no rule raises (R164). -/
  | voiceIndexOutOfRange
  deriving DecidableEq, Repr

/-- `adsr_phase` (R39). -/
inductive Phase where
  | off
  | attack
  | decay
  | sustain
  | release
  deriving DecidableEq, Repr

/-- `adsr_target` (R40): the parameters of the current phase. -/
structure AdsrTarget where
  level : Int
  step : Nat
  shift : Nat
  decreasing : Bool
  exponential : Bool
  deriving DecidableEq, Repr

/-- `current_block_flags` (R37). -/
structure BlockFlags where
  loopEnd : Bool
  loopRepeat : Bool
  loopStart : Bool
  deriving DecidableEq, Repr

/-- One voice record (10_state.md section 3). -/
structure Voice where
  /-- `volume_left` (R30, R31). -/
  volumeLeft : Half
  /-- `volume_right` (R30, R31). -/
  volumeRight : Half
  /-- `adpcm_sample_rate` (R30). -/
  sampleRate : Half
  /-- `adpcm_start_address`, a voice address (R30, R70). -/
  startAddress : Half
  /-- `adsr_low` (R32). -/
  adsrLow : Half
  /-- `adsr_high` (R33). -/
  adsrHigh : Half
  /-- `adsr_volume`, an `s16` (R30). -/
  adsrVolume : Half
  /-- `adpcm_repeat_address`, a voice address (R30, R70). -/
  repeatAddress : Half
  /-- `current_address`, a voice address (R34). -/
  currentAddress : Half
  /-- `counter`, a `u32` (R35, conflict C1). -/
  counter : Word
  /-- `current_block_samples[0..27]`, each an `s16` (R36). -/
  blockSamples : Vector Half 28
  /-- `previous_block_last_samples[0..2]`, each an `s16` (R36). -/
  prevSamples : Vector Half 3
  /-- `adpcm_last_samples[0]`, the newest unclamped predictor output (R36, R140). An integer: an `s32` that is never clamped
  or wrapped gives the same results (R143). DEDUCED (log entry 14). -/
  last0 : Int
  /-- `adpcm_last_samples[1]`, the output before it (R36, R140). -/
  last1 : Int
  /-- `current_block_flags` (R37). -/
  blockFlags : BlockFlags
  /-- `has_samples` (R38). -/
  hasSamples : Bool
  /-- `adsr_phase` (R39). -/
  phase : Phase
  /-- `adsr_target` (R40). -/
  target : AdsrTarget
  /-- `adsr_ticks`, a `u32` (R40). -/
  adsrTicks : Word
  /-- `adsr_ticks_remaining`, a `u32` (R40). -/
  adsrTicksRemaining : Word
  /-- `adsr_step`, an `s32` between -16384 and 14336 (R40, R131), held as an integer. DEDUCED (log entry 14). -/
  adsrStep : Int
  deriving DecidableEq, Repr

/-- A voice after reset (R177). -/
def Voice.reset : Voice where
  volumeLeft := 0
  volumeRight := 0
  sampleRate := 0
  startAddress := 0
  adsrLow := 0
  adsrHigh := 0
  adsrVolume := 0
  repeatAddress := 0
  currentAddress := 0
  counter := 0
  blockSamples := Vector.replicate 28 0
  prevSamples := Vector.replicate 3 0
  last0 := 0
  last1 := 0
  blockFlags := { loopEnd := false, loopRepeat := false, loopStart := false }
  hasSamples := false
  phase := .off
  target := { level := 0, step := 0, shift := 0, decreasing := false, exponential := false }
  adsrTicks := 0
  adsrTicksRemaining := 0
  adsrStep := 0

/-- The audio RAM (R29): a list of (byte index, byte) pairs, rising in the index, that lists no byte equal to what an
unlisted index reads as. -/
abbrev Memory := List Host.Cell

/-- What an unlisted byte of the RAM reads as: 'every byte 0x00' after reset (R29, R177). -/
def Memory.background : Byte := 0x00

/-- The canonical form: every index above `lo - 1`, rising, below `RAM_SIZE`, and no listed byte the background. -/
def Memory.wfFrom (lo : Nat) : Memory → Bool
  | [] => true
  | (a, b) :: m => decide (lo ≤ a) && decide (a < Config.ramSize) && decide (b ≠ Memory.background) && Memory.wfFrom (a + 1) m

/-- The canonical form of the RAM, so that equal contents are equal data. -/
def Memory.wf (m : Memory) : Bool := Memory.wfFrom 0 m

/-- What a transaction returned to the agent that issued it (R60, R61). -/
inductive Reply where
  /-- Every kind but REG_READ and DMA_READ returns nothing (R61). -/
  | none
  /-- A REG_READ returns one `u16`. -/
  | half (v : Half)
  /-- A DMA_READ returns a list of `u32`. -/
  | words (ws : List Word)
  deriving DecidableEq, Repr

/-- The state of the block (R12). -/
structure State where
  /-- `SPUCNT` (R15, R16). -/
  spucnt : Half
  /-- `SPUSTAT.irq9_flag` (R17), the one bit of SPUSTAT that can be 1, and the level of the IRQ line (R28). -/
  irq9Flag : Bool
  /-- `MAIN_VOL_L` (R18). -/
  mainVolL : Half
  /-- `MAIN_VOL_R` (R18). -/
  mainVolR : Half
  /-- `KON` (R19). -/
  kon : Word
  /-- `KOFF` (R19). -/
  koff : Word
  /-- `ENDX` (R20). -/
  endx : Word
  /-- `EON` (R21). -/
  eon : Word
  /-- `TADDR` (R22). -/
  taddr : Half
  /-- `cursor`, the transfer cursor (R23). -/
  cursor : RamIndex
  /-- `IRQ_ADDR` (R24). -/
  irqAddr : Half
  /-- `ticks_carry` (R25). -/
  ticksCarry : Nat
  /-- `CD_FIFO`, oldest frame first (R26). -/
  cdFifo : List Frame
  /-- `dma_request` (R27). -/
  dmaRequest : Bool
  /-- `V[0..23]` (R12, R30). -/
  voices : Vector Voice 24
  /-- `RAM` (R29). -/
  ram : Memory
  /-- The frame stream to the audio sink, oldest first (R41, R147). -/
  frames : List Frame
  /-- The IRQ rising edges, oldest first (R41, R167). -/
  irqEvents : List IrqEvent
  /-- The diagnostic log, oldest first (R41, R164). -/
  diags : List DiagCode
  /-- The MODEL's own: the number of sweep-mode volume draws taken so far (R31). DESIGN CHOICE (log entry 8). -/
  draws : Nat
  /-- The MODEL's own: the transactions the agents have offered and the block has not taken, first one first (R55, R60).
  DESIGN CHOICE (log entry 1). -/
  inbox : List Request
  /-- The MODEL's own: what the last transaction returned (R60, R61). DESIGN CHOICE (log entry 4). -/
  reply : Reply
  deriving DecidableEq, Repr

/-- The machine right after reset (R177; power-on is the same state, decision D21): every register zero, every voice Off, RAM
all 0x00. The output history is empty (log entry 5), no transaction is offered (log entry 1), nothing has been returned
(log entry 4) and no volume drawn (log entry 8). -/
def State.reset : State where
  spucnt := 0
  irq9Flag := false
  mainVolL := 0
  mainVolR := 0
  kon := 0
  koff := 0
  endx := 0
  eon := 0
  taddr := 0
  cursor := 0
  irqAddr := 0
  ticksCarry := 0
  cdFifo := []
  dmaRequest := false
  voices := Vector.replicate 24 Voice.reset
  ram := []
  frames := []
  irqEvents := []
  diags := []
  draws := 0
  inbox := []
  reply := .none

end Sys2Proof.Machine
end

