-- ==== Sys2Proof/Machine/Ops.lean ====
section
/-! DEFINITION. The named operations: the arithmetic primitives of R7, the audio RAM (R8, 20_memory.md), access to voices, the
output history (R9), the RAM transfers (41_ram_transfer.md), the CD FIFO (R161, R162), and the offered transactions. The block
takes no exception (R163), so there is no trap entry and no return here. -/

namespace Sys2Proof.Machine

/-! Arithmetic (R7) -/

/-- `x >> k` on a signed value: `floor(x / 2^k)` (R7). -/
def asr (x : Int) (k : Nat) : Int := x / 2 ^ k

/-- `tdiv`: division truncating toward zero (R7). -/
def tdiv (a b : Int) : Int := Int.tdiv a b

/-- `clamp(x, lo, hi) = min(max(x, lo), hi)` (R7). -/
def clamp (x lo hi : Int) : Int := min (max x lo) hi

/-- `clamp_s16` (R7). -/
def clampS16 (x : Int) : Int := clamp x (-32768) 32767

/-- The bits of the `s16` congruent to `x` modulo 2^16 (R7). -/
def toS16 (x : Int) : Half := BitVec.ofInt 16 x

/-- `wrap16` (R7). -/
def wrap16 (x : Int) : Int := (toS16 x).toInt

/-! Memory (R8, R46, R47) -/

/-- The byte at index `a`; an unlisted index reads as the reset contents (R29). -/
def Memory.read : Memory → Nat → Byte
  | [], _ => Memory.background
  | (k, b) :: m, a => if a = k then b else Memory.read m a

/-- Store byte `b` at index `a`, keeping the canonical form: a background byte is not listed. -/
def Memory.write : Memory → Nat → Byte → Memory
  | [], a, b => if b = Memory.background then [] else [(a, b)]
  | (k, c) :: m, a, b =>
    if a < k then (if b = Memory.background then (k, c) :: m else (a, b) :: (k, c) :: m)
    else if a = k then (if b = Memory.background then m else (a, b) :: m)
    else (k, c) :: Memory.write m a b

/-- `RAM[i]` (R8): a RAM index is masked by its type (R46). -/
def ramByte (m : Memory) (i : RamIndex) : Byte := m.read i.toNat

/-- Store bytes at `i, i+1, …`, each index modulo `RAM_SIZE`: 'contiguously modulo size' (R8, R46). -/
def writeBytes (m : Memory) (i : RamIndex) : List Byte → Memory
  | [] => m
  | b :: bs => writeBytes (m.write i.toNat b) (i + 1) bs

/-- The two bytes of a halfword, low byte first (R47). -/
def halfBytes (h : Half) : List Byte := [h.extractLsb' 0 8, h.extractLsb' 8 8]

/-- The four bytes of a DMA word, low byte first (R47). -/
def wordBytes (w : Word) : List Byte := [w.extractLsb' 0 8, w.extractLsb' 8 8, w.extractLsb' 16 8, w.extractLsb' 24 8]

/-- `MemRead(i, 4)`, little-endian (R8, R47). -/
def readWord (m : Memory) (i : RamIndex) : Word := ramByte m (i + 3) ++ ramByte m (i + 2) ++ ramByte m (i + 1) ++ ramByte m i

/-- The byte index of a voice address: `(A * 8) & RAM_MASK` (R70, R113, R135). -/
def addressIndex (a : Half) : RamIndex := a ++ 0#3

/-! Voices -/

/-- `V[v]`. -/
def State.voice (s : State) (v : VoiceId) : Voice := s.voices[v]

/-- `V[v] <- x`. -/
def State.setVoice (s : State) (v : VoiceId) (x : Voice) : State := { s with voices := s.voices.set v x }

/-- Change `V[v]` by a function of the voice alone. -/
def State.mapVoice (s : State) (v : VoiceId) (f : Voice → Voice) : State := s.setVoice v (f (s.voice v))

/-- 'voice is on': `adsr_phase != Off` (R11). -/
def Voice.isOn (v : Voice) : Bool := decide (v.phase ≠ .off)

/-! Output history and replies (R9, R41, R61) -/

/-- `emit_frame` (R9, R147). -/
def State.emitFrame (s : State) (f : Frame) : State := { s with frames := s.frames ++ [f] }

/-- `irq_rise()` (R9, R167). -/
def State.irqRise (s : State) : State := { s with irqEvents := s.irqEvents ++ [.rise] }

/-- `diag(code)` (R9, R164). -/
def State.diag (s : State) (c : DiagCode) : State := { s with diags := s.diags ++ [c] }

/-- What the transaction returns to its agent (R61). -/
def State.withReply (s : State) (r : Reply) : State := { s with reply := r }

/-- The spec's label of a diagnostic code (R164). -/
def DiagCode.number : DiagCode → Nat
  | .unknownRegister => 1
  | .transferDataRead => 2
  | .cdFifoOverflow => 3
  | .voiceIndexOutOfRange => 4

/-! RAM transfers (41_ram_transfer.md) -/

/-- `PIOWrite(data)` (R122). -/
def pioWrite (data : Half) (s : State) : State :=
  { s with ram := writeBytes s.ram s.cursor (halfBytes data), cursor := s.cursor + 2 }

/-- The stores of `DMAWrite` (R124): word `k` at `i + 4k`, in ascending order. -/
def writeWords (m : Memory) (i : RamIndex) : List Word → Memory
  | [] => m
  | w :: ws => writeWords (writeBytes m i (wordBytes w)) (i + 4) ws

/-- The loads of `DMARead` (R125): `n` words, word `k` at `i + 4k`. -/
def readWords (m : Memory) (i : RamIndex) : Nat → List Word
  | 0 => []
  | n + 1 => readWord m i :: readWords m (i + 4) n

/-- The cursor moved on by `k` bytes modulo `RAM_SIZE` (R127). -/
def advance (i : RamIndex) (k : Nat) : RamIndex := i + BitVec.ofNat 19 k

/-- `DMAWrite(w, n)` (R124). -/
def dmaWriteWords (ws : List Word) (s : State) : State :=
  { s with ram := writeWords s.ram s.cursor ws, cursor := advance s.cursor (4 * ws.length) }

/-- What `DMARead(n)` returns (R125). -/
def dmaReadWords (n : Nat) (s : State) : List Word := readWords s.ram s.cursor n

/-- What `DMARead(n)` changes: the cursor (R125). -/
def dmaReadAdvance (n : Nat) (s : State) : State := { s with cursor := advance s.cursor (4 * n) }

/-! CD-audio FIFO (R26, R161, R162) -/

/-- `CDPush(L, R)` (R161): a full FIFO drops its oldest frame and logs `CD_FIFO_OVERFLOW`, then the frame is appended. -/
def cdPush (p : Config.Params) (f : Frame) (s : State) : State :=
  if s.cdFifo.length = p.cdFifoCapacity then { s.diag .cdFifoOverflow with cdFifo := s.cdFifo.tail ++ [f] }
  else { s with cdFifo := s.cdFifo ++ [f] }

/-! Offered transactions (R55, R60; log entry 1) -/

/-- Take the first offered transaction, if there is one. -/
def takeRequest (s : State) : Option (Request × State) :=
  match s.inbox with
  | [] => none
  | r :: rest => some (r, { s with inbox := rest })

/-- Offer a transaction ahead of those already offered. -/
def offerFirst (r : Request) (s : State) : State := { s with inbox := r :: s.inbox }

end Sys2Proof.Machine
end

