-- ==== Sys2Proof/Machine/Operands.lean ====
section
/-! DEFINITION. The operand forms: the halves of the 32-bit registers (R57, R65), the fields of the ADSR registers (R32, R33),
the fields of a voice's counter (R35), the fields of an ADPCM block (R68, R69) and the decoding of a volume register (R31). -/

namespace Sys2Proof.Machine

/-! Halves of KON, KOFF, EON and ENDX (R57, R65) -/

/-- Bits 15:0. -/
def lowHalf (r : Word) : Half := r.extractLsb' 0 16

/-- Bits 31:16. -/
def highHalf (r : Word) : Half := r.extractLsb' 16 16

/-- `{r[31:16], data}`: the merge of a write to the low half (R95). -/
def mergeLow (r : Word) (data : Half) : Word := highHalf r ++ data

/-- `{data, r[15:0]}`: the merge of a write to the high half (R97). -/
def mergeHigh (r : Word) (data : Half) : Word := data ++ lowHalf r

/-- The voices a write to a low half names: bit `b` names voice `b` (R65, R95). -/
def lowMask (data : Half) : Word := 0#16 ++ data

/-- The voices a write to a high half names: bit `b` names voice `16 + b` (R65, R97); bits 15:8 name no voice. -/
def highMask (data : Half) : Word := data ++ 0#16

/-! Fields of `adsr_low` (R32) -/

/-- Bit 15. -/
def attackExp (low : Half) : Bool := low.getLsbD 15
/-- Bits 14:10. -/
def attackShift (low : Half) : Nat := (low.extractLsb' 10 5).toNat
/-- Bits 9:8. -/
def attackStep (low : Half) : Nat := (low.extractLsb' 8 2).toNat
/-- Bits 7:4. -/
def decayShift (low : Half) : Nat := (low.extractLsb' 4 4).toNat
/-- Bits 3:0. -/
def sustainLevel (low : Half) : Nat := (low.extractLsb' 0 4).toNat

/-! Fields of `adsr_high` (R33). Bit 13 is stored and unused; `sustain_step` is stored and no rule reads it. -/

/-- Bit 15. -/
def sustainExp (high : Half) : Bool := high.getLsbD 15
/-- Bit 14. -/
def sustainDirDecrease (high : Half) : Bool := high.getLsbD 14
/-- Bits 12:8. -/
def sustainShift (high : Half) : Nat := (high.extractLsb' 8 5).toNat
/-- Bits 7:6, read by no rule (R33). -/
def sustainStep (high : Half) : Nat := (high.extractLsb' 6 2).toNat
/-- Bit 5. -/
def releaseExp (high : Half) : Bool := high.getLsbD 5
/-- Bits 4:0. -/
def releaseShift (high : Half) : Nat := (high.extractLsb' 0 5).toNat

/-! Fields of `counter` (R35) -/

/-- `sample_index = counter[16:12]`. -/
def sampleIndex (c : Word) : Nat := (c.extractLsb' 12 5).toNat

/-- `interpolation_index = counter[11:4]`. -/
def interpolationIndex (c : Word) : Nat := (c.extractLsb' 4 8).toNat

/-! Fields of an ADPCM block (R68, R69) -/

/-- The 16 bytes of a block, by position (R68). -/
abbrev Block := Fin 16 → Byte

/-- `shift = blk[0][3:0]`, used unclamped (R137). -/
def blockShift (blk : Block) : Nat := ((blk 0).extractLsb' 0 4).toNat

/-- `filter = min(blk[0][6:4], 4)` (R137). -/
def blockFilter (blk : Block) : Nat := min ((blk 0).extractLsb' 4 3).toNat 4

/-- `current_block_flags` from `blk[1]` (R68, R141). -/
def blockFlagsOf (blk : Block) : BlockFlags where
  loopEnd := (blk 1).getLsbD 0
  loopRepeat := (blk 1).getLsbD 1
  loopStart := (blk 1).getLsbD 2

/-- `block.nibble(n) = (byte[2 + (n >> 1)] >> (4 * (n & 1))) & 0xF` (R69). -/
def blockNibble (blk : Block) (n : Fin 28) : BitVec 4 :=
  (blk ⟨2 + n.val / 2, by omega⟩).extractLsb' (4 * (n.val % 2)) 4

/-! Volume registers (R31) -/

/-- Bit 15, `sweep_mode` (R31). -/
def sweepMode (v : Half) : Bool := v.getLsbD 15

/-- The default `DECODE_VOLUME` of a register with bit 15 = 0: `sext_15(v[14:0]) * 2` (R5, R31), which the spec's vectors take. The
machine takes the parameter; this is one value of it (log entry 7). -/
def defaultDecodeVolume (v : Half) : Half := toS16 ((v.extractLsb' 0 15).toInt * 2)

/-- `DECODE_VOLUME(v)` (R5, R31, R160), an `s16`: the open parameter for bit 15 = 0 (log entry 7); for bit 15 = 1 a free value,
number `draw` of the run (log entry 8). -/
def decodeVolume (p : Config.Params) (draw : Nat) (v : Half) : Int :=
  (if sweepMode v then p.sweepVolume draw v else p.decodeVolume v).toInt

/-- How many draws the decoding of a volume register takes. -/
def volumeDraws (v : Half) : Nat := if sweepMode v then 1 else 0

end Sys2Proof.Machine
end

