-- ==== Sys2Proof/Machine/Flags.lean ====
section
/-! DEFINITION. The status and control bits: the fields of SPUCNT (R16), SPUSTAT and the IRQ line (R17, R28, R118), the IRQ check
(R165), the DMA request line (R169) and the ENDX bits (R20). -/

namespace Sys2Proof.Machine

/-! SPUCNT (R16). Only the four fields below are read by a rule. -/

/-- Bit 15, `enable`. -/
def State.enable (s : State) : Bool := s.spucnt.getLsbD 15
/-- Bit 6, `irq9_enable`. -/
def State.irq9Enable (s : State) : Bool := s.spucnt.getLsbD 6
/-- Bits 5:4, `ram_transfer_mode`: 0 Stop, 1 ManualWrite, 2 DMAWrite, 3 DMARead. -/
def ramTransferMode (spucnt : Half) : Nat := (spucnt.extractLsb' 4 2).toNat
/-- Bit 0, `cd_audio_enable`. -/
def State.cdAudioEnable (s : State) : Bool := s.spucnt.getLsbD 0

/-! SPUSTAT and the IRQ line -/

/-- `SPUSTAT`: `zext_16(irq9_flag) << 6`; every other bit reads 0 (R17, R118). -/
def State.spustat (s : State) : Half := if s.irq9Flag then 0x0040 else 0x0000

/-- The level of the SPU IRQ line (R28, R167). -/
def State.irqLine (s : State) : Bool := s.irq9Flag

/-- `IRQ_ADDR = A or IRQ_ADDR = A + 1`, an integer compare that does not wrap (R165). -/
def irqMatches (irqAddr a : Half) : Bool := irqAddr.toNat == a.toNat || irqAddr.toNat == a.toNat + 1

/-- `IrqCheck(A)` (R165): one `irq_rise` for each 0-to-1 change of the sticky flag. -/
def irqCheck (a : Half) (s : State) : State :=
  if s.irq9Enable && irqMatches s.irqAddr a then
    if s.irq9Flag then s else { s.irqRise with irq9Flag := true }
  else s

/-! The DMA request line -/

/-- The line's level for a value of SPUCNT (R169): mode DMAWrite or DMARead. -/
def dmaRequestOf (spucnt : Half) : Bool := ramTransferMode spucnt == 2 || ramTransferMode spucnt == 3

/-- `UpdateDmaRequest()` (R169). -/
def updateDmaRequest (s : State) : State := { s with dmaRequest := dmaRequestOf s.spucnt }

/-! ENDX (R20) -/

/-- Bit `v` of a 32-bit voice mask (R65). -/
def voiceBit (v : VoiceId) : Word := 1#32 <<< v.val

/-- `ENDX[v] <- 1` (R153). -/
def setEndx (v : VoiceId) (s : State) : State := { s with endx := s.endx ||| voiceBit v }

/-- `if ENDX_CLEAR_ON_KEYON then ENDX[v] <- 0` (R128). The bit is looked at first: where it is 0 the parameter has no effect. -/
def clearEndxOnKeyOn (p : Config.Params) (v : VoiceId) (s : State) : State :=
  { s with endx := if s.endx.getLsbD v.val && p.endxClearOnKeyOn then s.endx &&& ~~~voiceBit v else s.endx }

end Sys2Proof.Machine
end

