-- ==== Sys2Proof/Machine/Adsr.lean ====
section
/-! DEFINITION. Voice key control and the ADSR envelope (spec 42_voice_adsr.md). -/

namespace Sys2Proof.Machine

/-- NextPhase (R130). -/
def nextPhase : Phase → Phase
  | .off => .off
  | .attack => .decay
  | .decay => .sustain
  | .sustain => .sustain
  | .release => .off

/-- PhaseTable (R131): the parameters of a phase from the ADSR registers. -/
def phaseTarget (p : Phase) (low high : Half) : AdsrTarget :=
  match p with
  | .off => { level := 0, step := 0, shift := 0, decreasing := false, exponential := false }
  | .attack =>
    { level := 0x7FFF, step := attackStep low + 4, shift := attackShift low, decreasing := false, exponential := attackExp low }
  | .decay =>
    { level := (sustainLevel low + 1) * 0x800, step := 0, shift := decayShift low, decreasing := true, exponential := true }
  | .sustain =>
    { level := if sustainDirDecrease high then -1 else 1, step := 0, shift := sustainShift high,
      decreasing := sustainDirDecrease high, exponential := sustainExp high }
  | .release =>
    { level := 0, step := 0, shift := releaseShift high, decreasing := true, exponential := releaseExp high }

/-- `raw_step` (R131). -/
def rawStep (t : AdsrTarget) : Int := if t.decreasing then -8 + (t.step : Int) else 7 - (t.step : Int)

/-- `adsr_ticks = 1 << max(0, shift - 11)` (R131). The subtraction of naturals stops at 0. -/
def phaseTicks (t : AdsrTarget) : Word := BitVec.ofNat 32 (2 ^ (t.shift - 11))

/-- `adsr_step = raw_step << max(0, 11 - shift)` (R131). -/
def phaseStep (t : AdsrTarget) : Int := rawStep t * 2 ^ (11 - t.shift)

/-- `EnterPhase(v, p)` (R131): the parameters are derived from the ADSR registers as they are now (R132). -/
def Voice.enterPhase (v : Voice) (p : Phase) : Voice :=
  let t := phaseTarget p v.adsrLow v.adsrHigh
  { v with
    phase := p
    target := t
    adsrTicks := phaseTicks t
    adsrStep := phaseStep t
    adsrTicksRemaining := phaseTicks t }

/-- `KeyOn(v)` on the voice's own state (R128). -/
def Voice.keyOn (v : Voice) : Voice :=
  Voice.enterPhase { v with currentAddress := v.startAddress, adsrVolume := 0, hasSamples := false } .attack

/-- `KeyOff(v)` (R129). -/
def Voice.keyOff (v : Voice) : Voice := if v.phase = .off then v else v.enterPhase .release

/-- `reached` (R133). -/
def reachedTarget (t : AdsrTarget) (new : Int) : Bool := if t.decreasing then decide (new ≤ t.level) else decide (t.level ≤ new)

/-- The envelope level after an update: `clamp(adsr_volume + adsr_step, 0, 0x7FFF)` (R133). -/
def Voice.nextLevel (v : Voice) : Int := clamp (v.adsrVolume.toInt + v.adsrStep) 0 0x7FFF

/-- `TickADSR(v)` (R133). The update is linear whatever `exponential` says (R134). -/
def Voice.tickAdsr (v : Voice) : Voice :=
  if v.adsrTicksRemaining - 1 ≠ 0 then { v with adsrTicksRemaining := v.adsrTicksRemaining - 1 }
  else
    let u := { v with adsrTicksRemaining := 0, adsrVolume := toS16 v.nextLevel }
    if v.phase ≠ .sustain ∧ reachedTarget v.target v.nextLevel = true then u.enterPhase (nextPhase v.phase)
    else { u with adsrTicksRemaining := u.adsrTicks }

/-- `KeyOn(v)` (R128), with the ENDX clear of the parameter `ENDX_CLEAR_ON_KEYON`. -/
def keyOn (p : Config.Params) (v : VoiceId) (s : State) : State := (clearEndxOnKeyOn p v s).mapVoice v Voice.keyOn

/-- `KeyOff(v)` (R129). -/
def keyOff (v : VoiceId) (s : State) : State := s.mapVoice v Voice.keyOff

/-- Apply an action to every voice whose bit is 1 in a written mask, in ascending order (R95, R97, R99, R101). Bits 24 to 31
name no voice and trigger nothing (R65). -/
def forVoices (act : VoiceId → State → State) (mask : Word) (s : State) : State :=
  allVoices.foldl (fun s v => if mask.getLsbD v.val then act v s else s) s

end Sys2Proof.Machine
end

