-- ==== Sys2Proof/Machine/Adpcm.lean ====
section
/-! DEFINITION. ADPCM block fetch and decode: the predictor filter and the shift quantizer (spec 43_adpcm.md). -/

namespace Sys2Proof.Machine

/-- `POS = {0, 60, 115, 98, 122}` (R5, R139); the filter index is at most 4 (R137). -/
def predictorPos : Nat → Int
  | 0 => 0
  | 1 => 60
  | 2 => 115
  | 3 => 98
  | _ => 122

/-- `NEG = {0, 0, -52, -55, -60}` (R5, R139). -/
def predictorNeg : Nat → Int
  | 0 => 0
  | 1 => 0
  | 2 => -52
  | 3 => -55
  | _ => -60

/-- The read of `FetchBlock` (R135): bytes `(A * 8 + j) & RAM_MASK` of the RAM as it stands (R58). -/
def blockAt (m : Memory) (a : Half) : Block := fun j => ramByte m (addressIndex a + BitVec.ofNat 19 j.val)

/-- The shift quantizer: `raw = (sext_4(x) << 12) >> shift` (R138). -/
def quantize (x : BitVec 4) (shift : Nat) : Int := asr (x.toInt * 2 ^ 12) shift

/-- The predictor filter: `raw + tdiv(l0 * POS[filter] + l1 * NEG[filter] + 32, 64)` (R139). -/
def predict (filter : Nat) (raw l0 l1 : Int) : Int :=
  raw + tdiv (l0 * predictorPos filter + l1 * predictorNeg filter + 32) 64

/-- The part of a voice that decoding the 28 nibbles changes. -/
structure Decoder where
  samples : Vector Half 28
  last0 : Int
  last1 : Int

/-- Nibble `n` of a block: sample, then history (R138 to R140). The stored sample is clamped, the history is not. -/
def decodeSample (blk : Block) (d : Decoder) (n : Fin 28) : Decoder :=
  let predicted := predict (blockFilter blk) (quantize (blockNibble blk n) (blockShift blk)) d.last0 d.last1
  { samples := d.samples.set n (toS16 (clampS16 predicted)), last0 := predicted, last1 := d.last0 }

/-- The 28 nibbles in ascending order (R142). -/
def decodeSamples (blk : Block) (d : Decoder) : Decoder := sampleIndices.foldl (decodeSample blk) d

/-- `DecodeBlock(v, blk)` (R136, R142): keep the old tail, decode, latch the flags. -/
def Voice.decodeBlock (v : Voice) (blk : Block) : Voice :=
  let d := decodeSamples blk { samples := v.blockSamples, last0 := v.last0, last1 := v.last1 }
  { v with
    prevSamples := #v[v.blockSamples[25], v.blockSamples[26], v.blockSamples[27]]
    blockSamples := d.samples
    last0 := d.last0
    last1 := d.last1
    blockFlags := blockFlagsOf blk }

/-- Step 2 of SampleVoice on the voice's own state (R150 items 2 to 4): decode, set `has_samples`, and take the repeat address
from a block with `loop_start`. -/
def Voice.takeBlock (v : Voice) (blk : Block) : Voice :=
  let u := { v.decodeBlock blk with hasSamples := true }
  if u.blockFlags.loopStart then { u with repeatAddress := u.currentAddress } else u

end Sys2Proof.Machine
end

