-- ==== Sys2Proof/Machine/Sample.lean ====
section
/-! DEFINITION. The sample generator: the voice pipeline, Gaussian interpolation, the volume stages, the mixer and Execute (spec
44_sample_generator.md). -/

namespace Sys2Proof.Machine

/-- Step 2 (R150): a voice without samples fetches the block at its current address, with the IRQ check of R135, and decodes it. -/
def fetchStep (i : VoiceId) (s : State) : State :=
  if (s.voice i).hasSamples then s
  else (irqCheck (s.voice i).currentAddress s).mapVoice i (fun v => v.takeBlock (blockAt s.ram v.currentAddress))

/-- Step 3 (R151): `counter <- counter + min(adpcm_sample_rate, 0x4000)`. -/
def Voice.pitchStep (v : Voice) : Voice :=
  { v with counter := v.counter + BitVec.ofNat 32 (min v.sampleRate.toNat Config.pitchMax) }

/-- Items 1 and 2 of step 4 (R152): `counter <- counter - (28 << 12)`, `has_samples <- false`. -/
def Voice.leaveBlock (v : Voice) : Voice := { v with counter := v.counter - 0x1C000#32, hasSamples := false }

/-- Step 4 (R152 to R155). -/
def blockEndStep (i : VoiceId) (s : State) : State :=
  if sampleIndex (s.voice i).counter < 28 then s
  else if (s.voice i).blockFlags.loopEnd then
    if (s.voice i).blockFlags.loopRepeat then
      s.mapVoice i (fun v => { v.leaveBlock with currentAddress := v.repeatAddress })
    else keyOff i (setEndx i (s.mapVoice i Voice.leaveBlock))
  else s.mapVoice i (fun v => { v.leaveBlock with currentAddress := v.currentAddress + 2 })

/-- `SB(i, k)` (R157): the sample at position `k` of -3 to 27 relative to the current block. Other positions are never asked for. -/
def Voice.sampleBlock (v : Voice) (k : Int) : Int :=
  if k < 0 then (v.prevSamples.toList.getD (k + 3).toNat 0).toInt else (v.blockSamples.toList.getD k.toNat 0).toInt

/-- One tap of the interpolator: `wrap16((GAUSS[g] * x) >> 15)` (R156). -/
def gaussTap (p : Config.Params) (g : Nat) (x : Int) : Int := wrap16 (asr ((p.gauss (Fin.ofNat 512 g)).toInt * x) 15)

/-- Step 5, `Interpolate(i)` (R156): four taps, and the sum wraps. -/
def Voice.interpolate (p : Config.Params) (v : Voice) : Int :=
  let ix := interpolationIndex v.counter
  let k : Int := sampleIndex v.counter
  wrap16 (gaussTap p (0x0FF - ix) (v.sampleBlock (k - 3)) + gaussTap p (0x1FF - ix) (v.sampleBlock (k - 2)) +
    gaussTap p (0x100 + ix) (v.sampleBlock (k - 1)) + gaussTap p (0x000 + ix) (v.sampleBlock k))

/-- `ApplyVolume(a, b) = (a * b) >> 15` (R158). -/
def applyVolume (a b : Int) : Int := asr (a * b) 15

/-- What SampleVoice and the mixer hand on: the state and the two channel values, integers (R145, R160). -/
structure Mixed where
  state : State
  left : Int
  right : Int

/-- Step 8 (R160): the two channels, with the draws of sweep-mode volumes, left before right (log entry 8). -/
def volumeStep (p : Config.Params) (i : VoiceId) (voiced : Int) (s : State) : Mixed :=
  let v := s.voice i
  let rightDraw := s.draws + volumeDraws v.volumeLeft
  { state := { s with draws := rightDraw + volumeDraws v.volumeRight }
    left := applyVolume voiced (decodeVolume p s.draws v.volumeLeft)
    right := applyVolume voiced (decodeVolume p rightDraw v.volumeRight) }

/-- Steps 2 to 4 of SampleVoice: fetch, pitch step, block end (R150 to R155). -/
def advanceVoice (i : VoiceId) (s : State) : State := blockEndStep i ((fetchStep i s).mapVoice i Voice.pitchStep)

/-- Step 6 (R158): the interpolated sample times the envelope level before this sample's tick. -/
def Voice.voiced (p : Config.Params) (v : Voice) : Int := applyVolume (v.interpolate p) v.adsrVolume.toInt

/-- `SampleVoice(i)` (R148). An Off voice gives (0, 0) and changes nothing (R149). -/
def sampleVoice (p : Config.Params) (i : VoiceId) (s : State) : Mixed :=
  if (s.voice i).isOn then
    let a := advanceVoice i s
    volumeStep p i ((a.voice i).voiced p) (a.mapVoice i Voice.tickAdsr)
  else { state := s, left := 0, right := 0 }

/-- Add the contribution of voice `i` to the running sums (R145). -/
def mixVoice (p : Config.Params) (m : Mixed) (i : VoiceId) : Mixed :=
  let r := sampleVoice p i m.state
  { state := r.state, left := m.left + r.left, right := m.right + r.right }

/-- The voices of R145 in ascending order, when `enable` is 1. -/
def mixVoices (p : Config.Params) (s : State) : Mixed :=
  if s.enable then allVoices.foldl (mixVoice p) { state := s, left := 0, right := 0 }
  else { state := s, left := 0, right := 0 }

/-- The CD part of R145: when `cd_audio_enable` is 1 and the FIFO is not empty, `CDPop()` (R162) takes the oldest frame and adds
it unscaled. -/
def mixCd (m : Mixed) : Mixed :=
  match m.state.cdFifo with
  | [] => m
  | f :: rest =>
    if m.state.cdAudioEnable then
      { state := { m.state with cdFifo := rest }, left := m.left + f.left.toInt, right := m.right + f.right.toInt }
    else m

/-- `emit_frame(clamp_s16(left), clamp_s16(right))` (R145, R147). -/
def emitMixed (m : Mixed) : State := m.state.emitFrame { left := toS16 (clampS16 m.left), right := toS16 (clampS16 m.right) }

/-- `GenerateSample()` (R145). -/
def generateSample (p : Config.Params) (s : State) : State := emitMixed (mixCd (mixVoices p s))

/-- `repeat n times: GenerateSample()` (R144). -/
def generateSamples (p : Config.Params) : Nat → State → State
  | 0, s => s
  | n + 1, s => generateSamples p n (generateSample p s)

/-- `Execute(ticks)` (R144). The carry moves even when the unit is fully disabled; the samples are then dropped. -/
def execute (p : Config.Params) (ticks : Nat) (s : State) : State :=
  let total := ticks + s.ticksCarry
  let c := { s with ticksCarry := total % Config.ticksPerSample }
  if s.enable || s.cdAudioEnable then generateSamples p (total / Config.ticksPerSample) c else c

/-- `SyncWrite(t_sync, apply)` (R73): the catch-up Execute, then the write. -/
def syncWrite (p : Config.Params) (tSync : Nat) (apply : State → State) (s : State) : State := apply (execute p tSync s)

end Sys2Proof.Machine
end

