-- ==== Sys2Proof/Machine/VoiceRegs.lean ====
section
/-! DEFINITION. REG_READ and REG_WRITE of the voice registers (spec 40_register_file.md R74 to R89), and the shared shapes of
register transactions. -/

namespace Sys2Proof.Machine

/-- A transaction that returns nothing (R61). -/
def done (s : State) : Host.Outcome State Fault Refusal := .next (s.withReply .none)

/-- A REG_READ: it returns one `u16` (R61). -/
def replyHalf (v : Half) (s : State) : Host.Outcome State Fault Refusal := .next (s.withReply (.half v))

/-- The catch-up of a voice-register write: run only when the voice is on as the write arrives (R73, R75). -/
def voiceCatchUp (p : Config.Params) (v : VoiceId) (tSync : Nat) (s : State) : State :=
  if (s.voice v).isOn then execute p tSync s else s

/-- A write of a voice register (R73, R75): the catch-up, then the store, even if the catch-up turned the voice Off. -/
def writeVoice (v : VoiceId) (tSync : Nat) (store : Voice → Voice) (s : State) : Host.Outcome State Fault Refusal :=
  done ((voiceCatchUp Config.params v tSync s).mapVoice v store)

/-- RD_VOL_L: return `V[v].volume_left` (R74). -/
def execRdVolL (v : VoiceId) (s : State) : Host.Outcome State Fault Refusal := replyHalf (s.voice v).volumeLeft s

/-- WR_VOL_L: `V[v].volume_left <- data`, synchronized while the voice is on (R75). -/
def execWrVolL (v : VoiceId) (data : Half) (tSync : Nat) (s : State) : Host.Outcome State Fault Refusal :=
  writeVoice v tSync (fun x => { x with volumeLeft := data }) s

/-- RD_VOL_R: return `V[v].volume_right` (R76). -/
def execRdVolR (v : VoiceId) (s : State) : Host.Outcome State Fault Refusal := replyHalf (s.voice v).volumeRight s

/-- WR_VOL_R: `V[v].volume_right <- data`, synchronized while the voice is on (R77). -/
def execWrVolR (v : VoiceId) (data : Half) (tSync : Nat) (s : State) : Host.Outcome State Fault Refusal :=
  writeVoice v tSync (fun x => { x with volumeRight := data }) s

/-- RD_PITCH: return `V[v].adpcm_sample_rate` (R78). -/
def execRdPitch (v : VoiceId) (s : State) : Host.Outcome State Fault Refusal := replyHalf (s.voice v).sampleRate s

/-- WR_PITCH: `V[v].adpcm_sample_rate <- data`, synchronized while the voice is on (R79). -/
def execWrPitch (v : VoiceId) (data : Half) (tSync : Nat) (s : State) : Host.Outcome State Fault Refusal :=
  writeVoice v tSync (fun x => { x with sampleRate := data }) s

/-- RD_SADDR: return `V[v].adpcm_start_address` (R80). -/
def execRdSaddr (v : VoiceId) (s : State) : Host.Outcome State Fault Refusal := replyHalf (s.voice v).startAddress s

/-- WR_SADDR: `V[v].adpcm_start_address <- data`, synchronized while the voice is on (R81). -/
def execWrSaddr (v : VoiceId) (data : Half) (tSync : Nat) (s : State) : Host.Outcome State Fault Refusal :=
  writeVoice v tSync (fun x => { x with startAddress := data }) s

/-- RD_ADSR_LO: return `V[v].adsr_low` (R82). -/
def execRdAdsrLo (v : VoiceId) (s : State) : Host.Outcome State Fault Refusal := replyHalf (s.voice v).adsrLow s

/-- WR_ADSR_LO: `V[v].adsr_low <- data`, synchronized while the voice is on (R83). -/
def execWrAdsrLo (v : VoiceId) (data : Half) (tSync : Nat) (s : State) : Host.Outcome State Fault Refusal :=
  writeVoice v tSync (fun x => { x with adsrLow := data }) s

/-- RD_ADSR_HI: return `V[v].adsr_high` (R84). -/
def execRdAdsrHi (v : VoiceId) (s : State) : Host.Outcome State Fault Refusal := replyHalf (s.voice v).adsrHigh s

/-- WR_ADSR_HI: `V[v].adsr_high <- data`, synchronized while the voice is on (R85). -/
def execWrAdsrHi (v : VoiceId) (data : Half) (tSync : Nat) (s : State) : Host.Outcome State Fault Refusal :=
  writeVoice v tSync (fun x => { x with adsrHigh := data }) s

/-- RD_ADSR_VOL: return `V[v].adsr_volume` (R86). -/
def execRdAdsrVol (v : VoiceId) (s : State) : Host.Outcome State Fault Refusal := replyHalf (s.voice v).adsrVolume s

/-- WR_ADSR_VOL: `V[v].adsr_volume <- data`, synchronized while the voice is on (R87). -/
def execWrAdsrVol (v : VoiceId) (data : Half) (tSync : Nat) (s : State) : Host.Outcome State Fault Refusal :=
  writeVoice v tSync (fun x => { x with adsrVolume := data }) s

/-- RD_RADDR: return `V[v].adpcm_repeat_address` (R88). -/
def execRdRaddr (v : VoiceId) (s : State) : Host.Outcome State Fault Refusal := replyHalf (s.voice v).repeatAddress s

/-- WR_RADDR: `V[v].adpcm_repeat_address <- data`, synchronized while the voice is on (R89). -/
def execWrRaddr (v : VoiceId) (data : Half) (tSync : Nat) (s : State) : Host.Outcome State Fault Refusal :=
  writeVoice v tSync (fun x => { x with repeatAddress := data }) s

end Sys2Proof.Machine
end

