-- ==== Sys2Proof/Machine/GlobalRegs.lean ====
section
/-! DEFINITION. REG_READ and REG_WRITE of the global registers and of unknown offsets (spec 40_register_file.md R90 to R121). -/

namespace Sys2Proof.Machine

/-- A synchronized write of a global register (R73): the catch-up, then the write. -/
def writeGlobal (tSync : Nat) (apply : State → State) (s : State) : Host.Outcome State Fault Refusal :=
  done (syncWrite Config.params tSync apply s)

/-- RD_MVOL_L: return MAIN_VOL_L (R90). -/
def execRdMvolL (s : State) : Host.Outcome State Fault Refusal := replyHalf s.mainVolL s

/-- WR_MVOL_L: synchronized; MAIN_VOL_L <- data (R91). -/
def execWrMvolL (data : Half) (tSync : Nat) (s : State) : Host.Outcome State Fault Refusal :=
  writeGlobal tSync (fun s => { s with mainVolL := data }) s

/-- RD_MVOL_R: return MAIN_VOL_R (R92). -/
def execRdMvolR (s : State) : Host.Outcome State Fault Refusal := replyHalf s.mainVolR s

/-- WR_MVOL_R: synchronized; MAIN_VOL_R <- data (R93). -/
def execWrMvolR (data : Half) (tSync : Nat) (s : State) : Host.Outcome State Fault Refusal :=
  writeGlobal tSync (fun s => { s with mainVolR := data }) s

/-- RD_KON_LO: return KON[15:0] (R94). -/
def execRdKonLo (s : State) : Host.Outcome State Fault Refusal := replyHalf (lowHalf s.kon) s

/-- WR_KON_LO: synchronized; merge, then KeyOn of every voice whose bit is written 1 (R95). -/
def execWrKonLo (data : Half) (tSync : Nat) (s : State) : Host.Outcome State Fault Refusal :=
  writeGlobal tSync (fun s => forVoices (keyOn Config.params) (lowMask data) { s with kon := mergeLow s.kon data }) s

/-- RD_KON_HI: return KON[31:16] (R96). -/
def execRdKonHi (s : State) : Host.Outcome State Fault Refusal := replyHalf (highHalf s.kon) s

/-- WR_KON_HI: synchronized; merge, then KeyOn of every voice 16 to 23 whose bit is written 1 (R97). -/
def execWrKonHi (data : Half) (tSync : Nat) (s : State) : Host.Outcome State Fault Refusal :=
  writeGlobal tSync (fun s => forVoices (keyOn Config.params) (highMask data) { s with kon := mergeHigh s.kon data }) s

/-- RD_KOFF_LO: return KOFF[15:0] (R98). -/
def execRdKoffLo (s : State) : Host.Outcome State Fault Refusal := replyHalf (lowHalf s.koff) s

/-- WR_KOFF_LO: synchronized; merge, then KeyOff of every voice whose bit is written 1 (R99). -/
def execWrKoffLo (data : Half) (tSync : Nat) (s : State) : Host.Outcome State Fault Refusal :=
  writeGlobal tSync (fun s => forVoices keyOff (lowMask data) { s with koff := mergeLow s.koff data }) s

/-- RD_KOFF_HI: return KOFF[31:16] (R100). -/
def execRdKoffHi (s : State) : Host.Outcome State Fault Refusal := replyHalf (highHalf s.koff) s

/-- WR_KOFF_HI: synchronized; merge, then KeyOff of every voice 16 to 23 whose bit is written 1 (R101). -/
def execWrKoffHi (data : Half) (tSync : Nat) (s : State) : Host.Outcome State Fault Refusal :=
  writeGlobal tSync (fun s => forVoices keyOff (highMask data) { s with koff := mergeHigh s.koff data }) s

/-- RD_EON_LO: return EON[15:0] (R102). -/
def execRdEonLo (s : State) : Host.Outcome State Fault Refusal := replyHalf (lowHalf s.eon) s

/-- WR_EON_LO: synchronized; EON[15:0] <- data (R103). -/
def execWrEonLo (data : Half) (tSync : Nat) (s : State) : Host.Outcome State Fault Refusal :=
  writeGlobal tSync (fun s => { s with eon := mergeLow s.eon data }) s

/-- RD_EON_HI: return EON[31:16] (R104). -/
def execRdEonHi (s : State) : Host.Outcome State Fault Refusal := replyHalf (highHalf s.eon) s

/-- WR_EON_HI: synchronized; EON[31:16] <- data (R105). -/
def execWrEonHi (data : Half) (tSync : Nat) (s : State) : Host.Outcome State Fault Refusal :=
  writeGlobal tSync (fun s => { s with eon := mergeHigh s.eon data }) s

/-- RD_ENDX_LO: return ENDX[15:0]; reading clears nothing (R106). -/
def execRdEndxLo (s : State) : Host.Outcome State Fault Refusal := replyHalf (lowHalf s.endx) s

/-- WR_ENDX_LO: ignored (R107). -/
def execWrEndxLo (_data : Half) (s : State) : Host.Outcome State Fault Refusal := done s

/-- RD_ENDX_HI: return ENDX[31:16]; reading clears nothing (R108). -/
def execRdEndxHi (s : State) : Host.Outcome State Fault Refusal := replyHalf (highHalf s.endx) s

/-- WR_ENDX_HI: ignored (R109). -/
def execWrEndxHi (_data : Half) (s : State) : Host.Outcome State Fault Refusal := done s

/-- RD_IRQ_ADDR: return IRQ_ADDR (R110). -/
def execRdIrqAddr (s : State) : Host.Outcome State Fault Refusal := replyHalf s.irqAddr s

/-- WR_IRQ_ADDR: IRQ_ADDR <- data, not synchronized (R111). -/
def execWrIrqAddr (data : Half) (s : State) : Host.Outcome State Fault Refusal := done { s with irqAddr := data }

/-- RD_TADDR: return TADDR, the value written and not the cursor (R112). -/
def execRdTaddr (s : State) : Host.Outcome State Fault Refusal := replyHalf s.taddr s

/-- WR_TADDR: TADDR <- data; cursor <- (data << 3) & RAM_MASK (R113). -/
def execWrTaddr (data : Half) (s : State) : Host.Outcome State Fault Refusal := done { s with taddr := data, cursor := addressIndex data }

/-- RD_TDATA: `diag(TRANSFER_DATA_READ)`, return 0xFFFF; RAM and cursor are not touched (R114, R123). -/
def execRdTdata (s : State) : Host.Outcome State Fault Refusal := replyHalf 0xFFFF (s.diag .transferDataRead)

/-- WR_TDATA: PIOWrite(data), not gated by the transfer mode (R122, R126) (R115). -/
def execWrTdata (data : Half) (s : State) : Host.Outcome State Fault Refusal := done (pioWrite data s)

/-- RD_SPUCNT: return SPUCNT, all 16 bits (R116). -/
def execRdSpucnt (s : State) : Host.Outcome State Fault Refusal := replyHalf s.spucnt s

/-- WR_SPUCNT: SPUCNT <- data; UpdateDmaRequest() (R117). -/
def execWrSpucnt (data : Half) (s : State) : Host.Outcome State Fault Refusal := done (updateDmaRequest { s with spucnt := data })

/-- RD_SPUSTAT: return SPUSTAT (R118). -/
def execRdSpustat (s : State) : Host.Outcome State Fault Refusal := replyHalf s.spustat s

/-- WR_SPUSTAT: ignored (R119). -/
def execWrSpustat (_data : Half) (s : State) : Host.Outcome State Fault Refusal := done s

/-- RD_UNKNOWN: `diag(UNKNOWN_REGISTER)`, return 0xFFFF (R64, R120). -/
def execRdUnknown (_off : Offset) (s : State) : Host.Outcome State Fault Refusal := replyHalf 0xFFFF (s.diag .unknownRegister)

/-- WR_UNKNOWN: `diag(UNKNOWN_REGISTER)`, nothing written (R64, R121). -/
def execWrUnknown (_off : Offset) (_data : Half) (s : State) : Host.Outcome State Fault Refusal := done (s.diag .unknownRegister)

end Sys2Proof.Machine
end

