-- ==== Sys2Proof/Machine/Control.lean ====
section
/-! DEFINITION. The transactions that carry only a payload: DMA_READ, DMA_WRITE (spec 41_ram_transfer.md), EXECUTE, CD_PUSH (spec
44_sample_generator.md) and RESET (spec 70_reset_and_hazards.md). -/

namespace Sys2Proof.Machine

/-- DMA_READ: return `n` words from the cursor and advance it (R125), whatever the transfer mode (R126). -/
def execDmaRead (n : Nat) (s : State) : Host.Outcome State Fault Refusal :=
  .next ((dmaReadAdvance n s).withReply (.words (dmaReadWords n s)))

/-- DMA_WRITE: store the words at the cursor and advance it (R124), whatever the transfer mode (R126). -/
def execDmaWrite (words : List Word) (s : State) : Host.Outcome State Fault Refusal := done (dmaWriteWords words s)

/-- EXECUTE: advance the block by `ticks` source-clock ticks (R144). -/
def execExecute (ticks : Nat) (s : State) : Host.Outcome State Fault Refusal := done (execute Config.params ticks s)

/-- CD_PUSH: add one frame to the CD FIFO (R161). -/
def execCdPush (left right : Half) (s : State) : Host.Outcome State Fault Refusal :=
  done (cdPush Config.params { left := left, right := right } s)

/-- `Reset()` (R177): every piece of block state to its reset value; the output history stays (R41), and so do the model's own
draw counter and the transactions still offered (log entry 16). -/
def resetBlock (s : State) : State :=
  { State.reset with
    frames := s.frames
    irqEvents := s.irqEvents
    diags := s.diags
    draws := s.draws
    inbox := s.inbox }

/-- RESET (R177). -/
def execReset (s : State) : Host.Outcome State Fault Refusal := done (resetBlock s)

end Sys2Proof.Machine
end

