-- ==== Sys2Proof/Machine/Dispatch.lean ====
section
/-! DEFINITION. exec: one arm for each constructor of Instr, each one call of that transaction's meaning. -/

namespace Sys2Proof.Machine

def exec (i : Instr) (s : State) : Host.Outcome State Fault Refusal :=
  match i with
  | .rdVolL v => Sys2Proof.Machine.execRdVolL v s
  | .wrVolL v data tSync => Sys2Proof.Machine.execWrVolL v data tSync s
  | .rdVolR v => Sys2Proof.Machine.execRdVolR v s
  | .wrVolR v data tSync => Sys2Proof.Machine.execWrVolR v data tSync s
  | .rdPitch v => Sys2Proof.Machine.execRdPitch v s
  | .wrPitch v data tSync => Sys2Proof.Machine.execWrPitch v data tSync s
  | .rdSaddr v => Sys2Proof.Machine.execRdSaddr v s
  | .wrSaddr v data tSync => Sys2Proof.Machine.execWrSaddr v data tSync s
  | .rdAdsrLo v => Sys2Proof.Machine.execRdAdsrLo v s
  | .wrAdsrLo v data tSync => Sys2Proof.Machine.execWrAdsrLo v data tSync s
  | .rdAdsrHi v => Sys2Proof.Machine.execRdAdsrHi v s
  | .wrAdsrHi v data tSync => Sys2Proof.Machine.execWrAdsrHi v data tSync s
  | .rdAdsrVol v => Sys2Proof.Machine.execRdAdsrVol v s
  | .wrAdsrVol v data tSync => Sys2Proof.Machine.execWrAdsrVol v data tSync s
  | .rdRaddr v => Sys2Proof.Machine.execRdRaddr v s
  | .wrRaddr v data tSync => Sys2Proof.Machine.execWrRaddr v data tSync s
  | .rdMvolL => Sys2Proof.Machine.execRdMvolL s
  | .wrMvolL data tSync => Sys2Proof.Machine.execWrMvolL data tSync s
  | .rdMvolR => Sys2Proof.Machine.execRdMvolR s
  | .wrMvolR data tSync => Sys2Proof.Machine.execWrMvolR data tSync s
  | .rdKonLo => Sys2Proof.Machine.execRdKonLo s
  | .wrKonLo data tSync => Sys2Proof.Machine.execWrKonLo data tSync s
  | .rdKonHi => Sys2Proof.Machine.execRdKonHi s
  | .wrKonHi data tSync => Sys2Proof.Machine.execWrKonHi data tSync s
  | .rdKoffLo => Sys2Proof.Machine.execRdKoffLo s
  | .wrKoffLo data tSync => Sys2Proof.Machine.execWrKoffLo data tSync s
  | .rdKoffHi => Sys2Proof.Machine.execRdKoffHi s
  | .wrKoffHi data tSync => Sys2Proof.Machine.execWrKoffHi data tSync s
  | .rdEonLo => Sys2Proof.Machine.execRdEonLo s
  | .wrEonLo data tSync => Sys2Proof.Machine.execWrEonLo data tSync s
  | .rdEonHi => Sys2Proof.Machine.execRdEonHi s
  | .wrEonHi data tSync => Sys2Proof.Machine.execWrEonHi data tSync s
  | .rdEndxLo => Sys2Proof.Machine.execRdEndxLo s
  | .wrEndxLo data => Sys2Proof.Machine.execWrEndxLo data s
  | .rdEndxHi => Sys2Proof.Machine.execRdEndxHi s
  | .wrEndxHi data => Sys2Proof.Machine.execWrEndxHi data s
  | .rdIrqAddr => Sys2Proof.Machine.execRdIrqAddr s
  | .wrIrqAddr data => Sys2Proof.Machine.execWrIrqAddr data s
  | .rdTaddr => Sys2Proof.Machine.execRdTaddr s
  | .wrTaddr data => Sys2Proof.Machine.execWrTaddr data s
  | .rdTdata => Sys2Proof.Machine.execRdTdata s
  | .wrTdata data => Sys2Proof.Machine.execWrTdata data s
  | .rdSpucnt => Sys2Proof.Machine.execRdSpucnt s
  | .wrSpucnt data => Sys2Proof.Machine.execWrSpucnt data s
  | .rdSpustat => Sys2Proof.Machine.execRdSpustat s
  | .wrSpustat data => Sys2Proof.Machine.execWrSpustat data s
  | .rdUnknown off => Sys2Proof.Machine.execRdUnknown off s
  | .wrUnknown off data => Sys2Proof.Machine.execWrUnknown off data s
  | .dmaRead n => Sys2Proof.Machine.execDmaRead n s
  | .dmaWrite words => Sys2Proof.Machine.execDmaWrite words s
  | .execute ticks => Sys2Proof.Machine.execExecute ticks s
  | .cdPush left right => Sys2Proof.Machine.execCdPush left right s
  | .reset => Sys2Proof.Machine.execReset s

end Sys2Proof.Machine
end

