-- ==== Sys2Proof/Machine/Step.lean ====
section
/-! DEFINITION. One step: the block takes the first transaction the agents have offered (R51, R55), or none. -/

namespace Sys2Proof.Machine

/-- One step. With nothing offered the block does not change: 'The block changes state only when it accepts' a transaction
(R4). A word of R66 is refused, and with it the run. -/
def step (s : State) : Host.Outcome State Fault Refusal :=
  match takeRequest s with
  | none => .next s
  | some (r, rest) =>
    match decode r with
    | .ok i => exec i rest
    | .error e => .refused (.notATransaction e)

/-- `s` with the table row's word offered as the next transaction, its payload lanes at 0 and empty (log entry 1). -/
def State.withFetchWord (s : State) (nbits w : Nat) : State := offerFirst (tableRequest nbits w) s

end Sys2Proof.Machine
end

