-- ==== Sys2Proof/Safety.lean ====
section
/-! DEFINITION. The terms claims are stated in: one byte of the RAM, what may change while samples are generated, and the
invariant of every state a run reaches (spec 10_state.md R43 and the ranges of R20, R23, R25 to R27, R35, R40, R164). -/

namespace Sys2Proof.Machine

/-- `RAM[a]`: the byte at index `a & RAM_MASK` (R8, R46). -/
def State.readByte (s : State) (a : Nat) : Byte := s.ram.read (a % Config.ramSize)

/-- `t` differs from `s` at most in what generating samples may write (R144, R145, R148): the carry, the FIFO, the voices, ENDX,
the IRQ flag, the frame and IRQ event lists and the model's draw counter. Every other field is that of `s`. -/
def OnlySampling (s t : State) : Prop :=
  t = { s with
    ticksCarry := t.ticksCarry
    cdFifo := t.cdFifo
    voices := t.voices
    endx := t.endx
    irq9Flag := t.irq9Flag
    frames := t.frames
    irqEvents := t.irqEvents
    draws := t.draws }

/-- `t` is `s` with voice `v` replaced by `x` and nothing else changed. -/
def OnlyVoice (v : VoiceId) (x : Voice) (s t : State) : Prop :=
  t.voice v = x ∧ (∀ u, u ≠ v → t.voice u = s.voice u) ∧ t = { s with voices := t.voices }

/-- What holds of each voice in every state a run reaches. -/
structure Voice.Inv (v : Voice) : Prop where
  /-- `sample_index < 28` and bits 31:17 of `counter` are 0 (R35, R43 item 2). -/
  counter_lt : v.counter.toNat < 0x1C000
  /-- An on voice has `1 <= adsr_ticks_remaining <= adsr_ticks` (R40, R133). -/
  remaining_pos : v.phase ≠ .off → 1 ≤ v.adsrTicksRemaining.toNat
  remaining_le : v.phase ≠ .off → v.adsrTicksRemaining.toNat ≤ v.adsrTicks.toNat
  /-- The tick count and step of an on voice are those of its `adsr_target` (R131, R132). -/
  ticks_eq : v.phase ≠ .off → v.adsrTicks = phaseTicks v.target
  step_eq : v.phase ≠ .off → v.adsrStep = phaseStep v.target
  /-- `step` is 0 to 7 and `shift` 0 to 31 (R40). -/
  step_le : v.target.step ≤ 7
  shift_le : v.target.shift ≤ 31

/-- What holds in every state a run reaches. -/
structure State.Inv (s : State) : Prop where
  /-- The RAM list is canonical: its indices rise and stay below `RAM_SIZE` (R43 item 6). -/
  ram_wf : s.ram.wf = true
  /-- `ticks_carry` is 0 to 0x2FF (R25). -/
  carry_lt : s.ticksCarry < Config.ticksPerSample
  /-- `cursor` is even (R23). -/
  cursor_even : s.cursor.toNat % 2 = 0
  /-- The FIFO holds at most `CD_FIFO_CAPACITY` frames (R26). -/
  fifo_le : s.cdFifo.length ≤ Config.params.cdFifoCapacity
  /-- ENDX bits 24 to 31 are 0 (R20). -/
  endx_lt : s.endx.toNat < 2 ^ 24
  /-- The DMA request line follows the transfer mode (R169). -/
  dma_eq : s.dmaRequest = dmaRequestOf s.spucnt
  /-- A raised flag has left an event: each 0-to-1 change is recorded (R167). -/
  irq_recorded : s.irq9Flag = true → s.irqEvents ≠ []
  /-- Diagnostic code 4 is never logged (R164). -/
  no_code_four : DiagCode.voiceIndexOutOfRange ∉ s.diags
  /-- Every voice's invariant. -/
  voices_inv : ∀ v, (s.voice v).Inv

/-- A safe run in this machine's terms: it stops only at a word the block does not accept (R66, R163). -/
def StopsOnlyAtRefusedWord (s : State) : Prop :=
  (∃ t, step s = .next t) ∨ ∃ r rest e, takeRequest s = some (r, rest) ∧ decode r = .error e ∧
    step s = .refused (.notATransaction e)

end Sys2Proof.Machine
end

