-- ==== Sys2Proof/Certificates/Slice0/Obligations.lean ====
section
/-! DEFINITION. The statements for the provers: what the spec's rules say of the decoder, the step, the register file, the RAM
transfers, the envelope, the ADPCM decoder, the sample generator, the IRQ and the reset. -/

open Sys2Proof Sys2Proof.Machine

/-! ## Encoding (30_encoding.md) -/

/-- Decoding the word and payload of a well-formed transaction gives the transaction back (R61, R62, R63). -/
def Obligations.DecodeOfEncodeIsTheTransaction : Prop :=
  ∀ i : Instr, i.wellFormed = true → decode (encode i) = .ok i

/-- Encoding a decoded transaction gives its word back, but for the data field of a REG_READ. The spec says that this field is ignored
(R61); that it comes back as 0 is the model's own choice in the encoder (log entry 19). -/
def Obligations.EncodeOfDecodedRestoresTheWord : Prop :=
  ∀ (r : Request) (i : Instr), decode r = .ok i →
    (encode i).word = if kindField r.word = 0#3 then r.word &&& 0xFFFF0000#32 else r.word

/-- What the decoder answers is a transaction of the register map: an unknown access only at an offset R64 lists. -/
def Obligations.DecodedTransactionsAreWellFormed : Prop :=
  ∀ (r : Request) (i : Instr), decode r = .ok i → i.wellFormed = true

/-- The refused words are exactly those of R66, and an unknown even offset below 0x280 is not refused. -/
def Obligations.RefusedWordsAreExactlyThoseOfTheRule : Prop :=
  ∀ (s : State) (r : Request) (rest : List Request), s.inbox = r :: rest →
    ((∃ e, step s = .refused (.notATransaction e)) ↔
      kindField r.word = 7#3 ∨ zeroField r.word ≠ 0#3 ∨
      ((kindField r.word = 0#3 ∨ kindField r.word = 1#3) ∧
        ((offField r.word).toNat % 2 = 1 ∨ 0x280 ≤ (offField r.word).toNat)) ∨
      (kindField r.word ≠ 0#3 ∧ kindField r.word ≠ 1#3 ∧ r.word.extractLsb' 0 26 ≠ 0#26)) ∧
    (zeroField r.word = 0#3 → isUnknownOffset (offField r.word) = true →
      (kindField r.word = 0#3 → decode r = .ok (.rdUnknown (offField r.word))) ∧
      (kindField r.word = 1#3 → decode r = .ok (.wrUnknown (offField r.word) (dataField r.word))))

/-- Words of 95_test_vectors.md sections 2.9 and 3, as the decoder reads them from the word alone. A word carries no payload (R61): that
0x80000000 is then an EXECUTE of 0 ticks and 0x60000000 a DMA_WRITE of no words is the model's own choice for a payload lane that
nobody drives (log entry 2), and that a synchronized write then has `t_sync` 0 is log entry 3. -/
def Obligations.VectorWordsDecodeAsWritten : Prop :=
  decodeTableWord 32 0x21AA8000 = some (.wrSpucnt 0x8000) ∧ decodeTableWord 32 0x218AFF01 = some (.wrKonHi 0xFF01 0) ∧
  decodeTableWord 32 0x20103FFF = some (.wrVolL 1 0x3FFF 0) ∧ decodeTableWord 32 0x000C0000 = some (.rdAdsrVol 0) ∧
  decodeTableWord 32 0x60000000 = some (.dmaWrite []) ∧ decodeTableWord 32 0x80000000 = some (.execute 0) ∧
  decodeTableWord 32 0xC0000000 = some .reset ∧ decodeTableWord 32 0x21840005 = some (.wrUnknown 0x184 5) ∧
  decodeTableWord 32 0xE0000000 = none ∧ decodeTableWord 32 0x21AB0000 = none ∧ decodeTableWord 32 0x22800000 = none ∧
  decodeTableWord 32 0x84000000 = none ∧ decodeTableWord 32 0x80000001 = none

/-! ## The step and the whole machine -/

/-- A step takes the first offered transaction and runs it on the state from which it has been taken; a table word placed
by `withFetchWord` is run next. That transactions wait in `inbox` is the model's choice (log entry 1). -/
def Obligations.StepRunsTheDecodedTransaction : Prop :=
  (∀ (s : State) (r : Request) (rest : List Request) (i : Instr), s.inbox = r :: rest → decode r = .ok i →
    step s = exec i { s with inbox := rest }) ∧
  (∀ (s : State) (nbits w : Nat) (i : Instr), decodeTableWord nbits w = some i →
    step (s.withFetchWord nbits w) = exec i s) ∧
  (∀ s : State, s.inbox = [] → step s = .next s)

/-- A run stops only at a word the block does not accept (R66); no transaction faults or is aborted (R163). -/
def Obligations.RunsStopOnlyAtRefusedWords : Prop := ∀ s : State, StopsOnlyAtRefusedWord s

/-- Every transaction has its effect in every state: 'No transaction faults, traps or is aborted' (R163). -/
def Obligations.EveryTransactionCompletes : Prop := ∀ (i : Instr) (s : State), ∃ t, exec i s = .next t

/-- Every step keeps the invariant: the canonical RAM, the ranges of the carry, the cursor, the FIFO and ENDX, the DMA request
line, the recorded IRQ rises, the unreachable diagnostic code and every voice's counter and envelope. -/
def Obligations.StepKeepsTheInvariant : Prop := ∀ s t : State, s.Inv → step s = .next t → t.Inv

/-- The invariant holds right after reset. -/
def Obligations.ResetHasTheInvariant : Prop := State.reset.Inv

/-- No transaction erases a frame, an IRQ event or a diagnostic record, not even RESET (R41, R177). -/
def Obligations.OutputHistoryOnlyGrows : Prop :=
  ∀ (i : Instr) (s t : State), exec i s = .next t →
    (∃ fs, t.frames = s.frames ++ fs) ∧ (∃ es, t.irqEvents = s.irqEvents ++ es) ∧ (∃ ds, t.diags = s.diags ++ ds)

/-- `irq9_flag` is sticky until reset (R166), each 0-to-1 change leaves one event, and reset drops the flag without one. -/
def Obligations.IrqFlagIsStickyAndEachRiseIsRecorded : Prop :=
  ∀ (i : Instr) (s t : State), exec i s = .next t →
    (i ≠ .reset → (s.irq9Flag = true → t.irq9Flag = true) ∧
      t.irqEvents = s.irqEvents ++ (if s.irq9Flag = false ∧ t.irq9Flag = true then [.rise] else [])) ∧
    (i = .reset → t.irq9Flag = false ∧ t.irqEvents = s.irqEvents)

/-- Only a TDATA write, a DMA write and RESET write the audio RAM (R45, R177). -/
def Obligations.RamChangesOnlyByTransfers : Prop :=
  ∀ (i : Instr) (s t : State), exec i s = .next t → (∀ d, i ≠ .wrTdata d) → (∀ ws, i ≠ .dmaWrite ws) → i ≠ .reset →
    t.ram = s.ram ∧ ∀ a, t.readByte a = s.readByte a

/-- Each register that only the host writes keeps its value unless its own write, or RESET, runs: no sample, catch-up, KeyOn, KeyOff,
transfer or other write moves SPUCNT and the DMA request line that follows it, the main volumes, KON, KOFF, EON, TADDR, IRQ_ADDR,
or the volumes, rate, start address and ADSR registers of any voice. The other two voice registers are not of this kind: samples
and KeyOn move `adsr_volume` (R128, R133), and the fetch moves `adpcm_repeat_address` (R150). -/
def Obligations.HostOnlyRegistersChangeOnlyByTheirOwnWrites : Prop :=
  ∀ (i : Instr) (s t : State), exec i s = .next t → i ≠ .reset →
    ((∀ d, i ≠ .wrSpucnt d) → t.spucnt = s.spucnt ∧ t.dmaRequest = s.dmaRequest) ∧
    ((∀ d n, i ≠ .wrMvolL d n) → t.mainVolL = s.mainVolL) ∧ ((∀ d n, i ≠ .wrMvolR d n) → t.mainVolR = s.mainVolR) ∧
    ((∀ d n, i ≠ .wrKonLo d n) → t.kon.extractLsb' 0 16 = s.kon.extractLsb' 0 16) ∧
    ((∀ d n, i ≠ .wrKonHi d n) → t.kon.extractLsb' 16 16 = s.kon.extractLsb' 16 16) ∧
    ((∀ d n, i ≠ .wrKoffLo d n) → t.koff.extractLsb' 0 16 = s.koff.extractLsb' 0 16) ∧
    ((∀ d n, i ≠ .wrKoffHi d n) → t.koff.extractLsb' 16 16 = s.koff.extractLsb' 16 16) ∧
    ((∀ d n, i ≠ .wrEonLo d n) → t.eon.extractLsb' 0 16 = s.eon.extractLsb' 0 16) ∧
    ((∀ d n, i ≠ .wrEonHi d n) → t.eon.extractLsb' 16 16 = s.eon.extractLsb' 16 16) ∧
    ((∀ d, i ≠ .wrTaddr d) → t.taddr = s.taddr) ∧ ((∀ d, i ≠ .wrIrqAddr d) → t.irqAddr = s.irqAddr) ∧
    ∀ v : VoiceId,
      ((∀ d n, i ≠ .wrVolL v d n) → (t.voice v).volumeLeft = (s.voice v).volumeLeft) ∧
      ((∀ d n, i ≠ .wrVolR v d n) → (t.voice v).volumeRight = (s.voice v).volumeRight) ∧
      ((∀ d n, i ≠ .wrPitch v d n) → (t.voice v).sampleRate = (s.voice v).sampleRate) ∧
      ((∀ d n, i ≠ .wrSaddr v d n) → (t.voice v).startAddress = (s.voice v).startAddress) ∧
      ((∀ d n, i ≠ .wrAdsrLo v d n) → (t.voice v).adsrLow = (s.voice v).adsrLow) ∧
      ((∀ d n, i ≠ .wrAdsrHi v d n) → (t.voice v).adsrHigh = (s.voice v).adsrHigh)

/-- An ENDX bit is cleared only by RESET or, where the parameter says so, by the KeyOn of its voice (R20). -/
def Obligations.EndxBitsAreClearedOnlyByResetOrKeyOn : Prop :=
  ∀ (i : Instr) (s t : State) (b : Nat), exec i s = .next t → i ≠ .reset → s.endx.getLsbD b = true →
    t.endx.getLsbD b = true ∨
    (Config.endxClearOnKeyOn = true ∧ ∃ d n, (i = .wrKonLo d n ∧ b < 16 ∧ d.getLsbD b = true) ∨
      (i = .wrKonHi d n ∧ 16 ≤ b ∧ b < 24 ∧ d.getLsbD (b - 16) = true))

/-! ## Register reads (40_register_file.md) -/

/-- The eight voice registers at `16v + 0x0 .. 0xE`: each read returns the stored register and changes no block state. -/
def Obligations.VoiceRegisterReadsReturnTheStoredValue : Prop :=
  ∀ (v : VoiceId) (s : State),
    (decode (.rd (BitVec.ofNat 10 (16 * v.val))) = .ok (.rdVolL v) ∧
      exec (.rdVolL v) s = .next { s with reply := .half (s.voices[v]).volumeLeft }) ∧
    (decode (.rd (BitVec.ofNat 10 (16 * v.val + 0x2))) = .ok (.rdVolR v) ∧
      exec (.rdVolR v) s = .next { s with reply := .half (s.voices[v]).volumeRight }) ∧
    (decode (.rd (BitVec.ofNat 10 (16 * v.val + 0x4))) = .ok (.rdPitch v) ∧
      exec (.rdPitch v) s = .next { s with reply := .half (s.voices[v]).sampleRate }) ∧
    (decode (.rd (BitVec.ofNat 10 (16 * v.val + 0x6))) = .ok (.rdSaddr v) ∧
      exec (.rdSaddr v) s = .next { s with reply := .half (s.voices[v]).startAddress }) ∧
    (decode (.rd (BitVec.ofNat 10 (16 * v.val + 0x8))) = .ok (.rdAdsrLo v) ∧
      exec (.rdAdsrLo v) s = .next { s with reply := .half (s.voices[v]).adsrLow }) ∧
    (decode (.rd (BitVec.ofNat 10 (16 * v.val + 0xA))) = .ok (.rdAdsrHi v) ∧
      exec (.rdAdsrHi v) s = .next { s with reply := .half (s.voices[v]).adsrHigh }) ∧
    (decode (.rd (BitVec.ofNat 10 (16 * v.val + 0xC))) = .ok (.rdAdsrVol v) ∧
      exec (.rdAdsrVol v) s = .next { s with reply := .half (s.voices[v]).adsrVolume }) ∧
    (decode (.rd (BitVec.ofNat 10 (16 * v.val + 0xE))) = .ok (.rdRaddr v) ∧
      exec (.rdRaddr v) s = .next { s with reply := .half (s.voices[v]).repeatAddress })

/-- The reads at 0x180 to 0x19E: main volumes and the halves of KON, KOFF, EON and ENDX. -/
def Obligations.MainVolumeAndVoiceMaskReadsReturnTheStoredValue : Prop :=
  ∀ s : State,
    (decode (.rd 0x180) = .ok .rdMvolL ∧ exec .rdMvolL s = .next { s with reply := .half s.mainVolL }) ∧
    (decode (.rd 0x182) = .ok .rdMvolR ∧ exec .rdMvolR s = .next { s with reply := .half s.mainVolR }) ∧
    (decode (.rd 0x188) = .ok .rdKonLo ∧ exec .rdKonLo s = .next { s with reply := .half (s.kon.extractLsb' 0 16) }) ∧
    (decode (.rd 0x18A) = .ok .rdKonHi ∧ exec .rdKonHi s = .next { s with reply := .half (s.kon.extractLsb' 16 16) }) ∧
    (decode (.rd 0x18C) = .ok .rdKoffLo ∧ exec .rdKoffLo s = .next { s with reply := .half (s.koff.extractLsb' 0 16) }) ∧
    (decode (.rd 0x18E) = .ok .rdKoffHi ∧ exec .rdKoffHi s = .next { s with reply := .half (s.koff.extractLsb' 16 16) }) ∧
    (decode (.rd 0x198) = .ok .rdEonLo ∧ exec .rdEonLo s = .next { s with reply := .half (s.eon.extractLsb' 0 16) }) ∧
    (decode (.rd 0x19A) = .ok .rdEonHi ∧ exec .rdEonHi s = .next { s with reply := .half (s.eon.extractLsb' 16 16) }) ∧
    (decode (.rd 0x19C) = .ok .rdEndxLo ∧ exec .rdEndxLo s = .next { s with reply := .half (s.endx.extractLsb' 0 16) }) ∧
    (decode (.rd 0x19E) = .ok .rdEndxHi ∧ exec .rdEndxHi s = .next { s with reply := .half (s.endx.extractLsb' 16 16) })

/-- The reads at 0x1A4 to 0x1AE and at unknown offsets: a TDATA or unknown read returns 0xFFFF and logs its code; SPUSTAT is the
IRQ flag in bit 6 and nothing else. -/
def Obligations.TransferControlAndUnknownReads : Prop :=
  (∀ s : State,
    (decode (.rd 0x1A4) = .ok .rdIrqAddr ∧ exec .rdIrqAddr s = .next { s with reply := .half s.irqAddr }) ∧
    (decode (.rd 0x1A6) = .ok .rdTaddr ∧ exec .rdTaddr s = .next { s with reply := .half s.taddr }) ∧
    (decode (.rd 0x1A8) = .ok .rdTdata ∧
      exec .rdTdata s = .next { s with diags := s.diags ++ [.transferDataRead], reply := .half 0xFFFF }) ∧
    (decode (.rd 0x1AA) = .ok .rdSpucnt ∧ exec .rdSpucnt s = .next { s with reply := .half s.spucnt }) ∧
    (decode (.rd 0x1AE) = .ok .rdSpustat ∧
      exec .rdSpustat s = .next { s with reply := .half ((BitVec.ofBool s.irq9Flag).zeroExtend 16 <<< 6) })) ∧
  (∀ (s : State) (off : Offset), isUnknownOffset off = true →
    decode (.rd off) = .ok (.rdUnknown off) ∧
    exec (.rdUnknown off) s = .next { s with diags := s.diags ++ [.unknownRegister], reply := .half 0xFFFF })

/-! ## Register writes (40_register_file.md) -/

/-- The eight voice-register writes: after the catch-up, which runs exactly when the voice is on as the write arrives, the register
holds the data; no other register, voice, byte of RAM or output differs from the state `c` after the catch-up. -/
def Obligations.VoiceRegisterWritesStoreAfterTheCatchUp : Prop :=
  ∀ (v : VoiceId) (d : Half) (n : Nat) (s : State), ∃ c : State,
    ((s.voice v).phase ≠ .off → exec (.execute n) s = .next c) ∧
    ((s.voice v).phase = .off → c = { s with reply := .none }) ∧
    (decode (.wr (BitVec.ofNat 10 (16 * v.val)) d n) = .ok (.wrVolL v d n) ∧
      ∃ t, exec (.wrVolL v d n) s = .next t ∧ OnlyVoice v { c.voice v with volumeLeft := d } c t) ∧
    (decode (.wr (BitVec.ofNat 10 (16 * v.val + 0x2)) d n) = .ok (.wrVolR v d n) ∧
      ∃ t, exec (.wrVolR v d n) s = .next t ∧ OnlyVoice v { c.voice v with volumeRight := d } c t) ∧
    (decode (.wr (BitVec.ofNat 10 (16 * v.val + 0x4)) d n) = .ok (.wrPitch v d n) ∧
      ∃ t, exec (.wrPitch v d n) s = .next t ∧ OnlyVoice v { c.voice v with sampleRate := d } c t) ∧
    (decode (.wr (BitVec.ofNat 10 (16 * v.val + 0x6)) d n) = .ok (.wrSaddr v d n) ∧
      ∃ t, exec (.wrSaddr v d n) s = .next t ∧ OnlyVoice v { c.voice v with startAddress := d } c t) ∧
    (decode (.wr (BitVec.ofNat 10 (16 * v.val + 0x8)) d n) = .ok (.wrAdsrLo v d n) ∧
      ∃ t, exec (.wrAdsrLo v d n) s = .next t ∧ OnlyVoice v { c.voice v with adsrLow := d } c t) ∧
    (decode (.wr (BitVec.ofNat 10 (16 * v.val + 0xA)) d n) = .ok (.wrAdsrHi v d n) ∧
      ∃ t, exec (.wrAdsrHi v d n) s = .next t ∧ OnlyVoice v { c.voice v with adsrHigh := d } c t) ∧
    (decode (.wr (BitVec.ofNat 10 (16 * v.val + 0xC)) d n) = .ok (.wrAdsrVol v d n) ∧
      ∃ t, exec (.wrAdsrVol v d n) s = .next t ∧ OnlyVoice v { c.voice v with adsrVolume := d } c t) ∧
    (decode (.wr (BitVec.ofNat 10 (16 * v.val + 0xE)) d n) = .ok (.wrRaddr v d n) ∧
      ∃ t, exec (.wrRaddr v d n) s = .next t ∧ OnlyVoice v { c.voice v with repeatAddress := d } c t)

/-- The main volumes and the EON halves: the catch-up, then the store; a half write keeps the other half as it was before the
transaction, and nothing else differs from the state after the catch-up. -/
def Obligations.MainVolumeAndReverbWritesStoreAfterTheCatchUp : Prop :=
  ∀ (d : Half) (n : Nat) (s : State), ∃ c : State, exec (.execute n) s = .next c ∧
    (decode (.wr 0x180 d n) = .ok (.wrMvolL d n) ∧ exec (.wrMvolL d n) s = .next { c with mainVolL := d }) ∧
    (decode (.wr 0x182 d n) = .ok (.wrMvolR d n) ∧ exec (.wrMvolR d n) s = .next { c with mainVolR := d }) ∧
    (decode (.wr 0x198 d n) = .ok (.wrEonLo d n) ∧
      exec (.wrEonLo d n) s = .next { c with eon := s.eon.extractLsb' 16 16 ++ d }) ∧
    (decode (.wr 0x19A d n) = .ok (.wrEonHi d n) ∧
      exec (.wrEonHi d n) s = .next { c with eon := d ++ s.eon.extractLsb' 0 16 })

/-- The KON halves: the catch-up, the merge, then KeyOn of exactly the voices whose bit is written 1, whatever the register
held; bits 15:8 of the high half trigger nothing. -/
def Obligations.KeyOnWritesMergeAndStartTheirVoices : Prop :=
  ∀ (d : Half) (n : Nat) (s : State), ∃ c : State, exec (.execute n) s = .next c ∧
    (decode (.wr 0x188 d n) = .ok (.wrKonLo d n) ∧ ∃ t, exec (.wrKonLo d n) s = .next t ∧
      t = { c with kon := s.kon.extractLsb' 16 16 ++ d, voices := t.voices, endx := t.endx } ∧
      (∀ v : VoiceId, t.voice v = if v.val < 16 ∧ d.getLsbD v.val = true then (c.voice v).keyOn else c.voice v) ∧
      (∀ b, t.endx.getLsbD b = (c.endx.getLsbD b && !(Config.endxClearOnKeyOn && decide (b < 16) && d.getLsbD b)))) ∧
    (decode (.wr 0x18A d n) = .ok (.wrKonHi d n) ∧ ∃ t, exec (.wrKonHi d n) s = .next t ∧
      t = { c with kon := d ++ s.kon.extractLsb' 0 16, voices := t.voices, endx := t.endx } ∧
      (∀ v : VoiceId, t.voice v = if 16 ≤ v.val ∧ d.getLsbD (v.val - 16) = true then (c.voice v).keyOn else c.voice v) ∧
      (∀ b, t.endx.getLsbD b = (c.endx.getLsbD b &&
        !(Config.endxClearOnKeyOn && decide (16 ≤ b) && decide (b < 24) && d.getLsbD (b - 16)))))

/-- The KOFF halves: the catch-up, the merge, then KeyOff of exactly the voices whose bit is written 1. -/
def Obligations.KeyOffWritesMergeAndReleaseTheirVoices : Prop :=
  ∀ (d : Half) (n : Nat) (s : State), ∃ c : State, exec (.execute n) s = .next c ∧
    (decode (.wr 0x18C d n) = .ok (.wrKoffLo d n) ∧ ∃ t, exec (.wrKoffLo d n) s = .next t ∧
      t = { c with koff := s.koff.extractLsb' 16 16 ++ d, voices := t.voices } ∧
      (∀ v : VoiceId, t.voice v = if v.val < 16 ∧ d.getLsbD v.val = true then (c.voice v).keyOff else c.voice v)) ∧
    (decode (.wr 0x18E d n) = .ok (.wrKoffHi d n) ∧ ∃ t, exec (.wrKoffHi d n) s = .next t ∧
      t = { c with koff := d ++ s.koff.extractLsb' 0 16, voices := t.voices } ∧
      (∀ v : VoiceId, t.voice v = if 16 ≤ v.val ∧ d.getLsbD (v.val - 16) = true then (c.voice v).keyOff else c.voice v))

/-- The ignored writes (ENDX, SPUSTAT, unknown offsets) and the plain store of IRQ_ADDR: no catch-up, nothing else changed. -/
def Obligations.IgnoredWritesAndIrqAddressWrite : Prop :=
  (∀ (d : Half) (n : Nat) (s : State),
    (decode (.wr 0x19C d n) = .ok (.wrEndxLo d) ∧ exec (.wrEndxLo d) s = .next { s with reply := .none }) ∧
    (decode (.wr 0x19E d n) = .ok (.wrEndxHi d) ∧ exec (.wrEndxHi d) s = .next { s with reply := .none }) ∧
    (decode (.wr 0x1AE d n) = .ok (.wrSpustat d) ∧ exec (.wrSpustat d) s = .next { s with reply := .none }) ∧
    (decode (.wr 0x1A4 d n) = .ok (.wrIrqAddr d) ∧ exec (.wrIrqAddr d) s = .next { s with irqAddr := d, reply := .none })) ∧
  (∀ (off : Offset) (d : Half) (n : Nat) (s : State), isUnknownOffset off = true →
    decode (.wr off d n) = .ok (.wrUnknown off d) ∧
    exec (.wrUnknown off d) s = .next { s with diags := s.diags ++ [.unknownRegister], reply := .none })

/-- A SPUCNT write stores all 16 bits and sets the DMA request line to 'mode 2 or 3' of the new value (R117, R169). -/
def Obligations.SpucntWriteStoresAndUpdatesTheDmaRequest : Prop :=
  ∀ (d : Half) (n : Nat) (s : State), decode (.wr 0x1AA d n) = .ok (.wrSpucnt d) ∧
    exec (.wrSpucnt d) s = .next
      { s with spucnt := d, dmaRequest := decide (d.toNat / 16 % 4 = 2 ∨ d.toNat / 16 % 4 = 3), reply := .none }

/-- A synchronized write is Execute of its catch-up followed by the write with a catch-up of no ticks; a voice write is so
exactly when the voice is on as it arrives, and needs no catch-up when it is Off (R73). -/
def Obligations.SynchronizedWriteIsExecuteThenWrite : Prop :=
  (∀ (d : Half) (n : Nat) (s c : State), exec (.execute n) s = .next c →
    exec (.wrMvolL d n) s = exec (.wrMvolL d 0) c ∧ exec (.wrMvolR d n) s = exec (.wrMvolR d 0) c ∧
    exec (.wrKonLo d n) s = exec (.wrKonLo d 0) c ∧ exec (.wrKonHi d n) s = exec (.wrKonHi d 0) c ∧
    exec (.wrKoffLo d n) s = exec (.wrKoffLo d 0) c ∧ exec (.wrKoffHi d n) s = exec (.wrKoffHi d 0) c ∧
    exec (.wrEonLo d n) s = exec (.wrEonLo d 0) c ∧ exec (.wrEonHi d n) s = exec (.wrEonHi d 0) c) ∧
  (∀ (v : VoiceId) (d : Half) (n : Nat) (s c : State),
    ((s.voice v).phase ≠ .off → exec (.execute n) s = .next c) → ((s.voice v).phase = .off → c = s) →
    exec (.wrVolL v d n) s = exec (.wrVolL v d 0) c ∧ exec (.wrVolR v d n) s = exec (.wrVolR v d 0) c ∧
    exec (.wrPitch v d n) s = exec (.wrPitch v d 0) c ∧ exec (.wrSaddr v d n) s = exec (.wrSaddr v d 0) c ∧
    exec (.wrAdsrLo v d n) s = exec (.wrAdsrLo v d 0) c ∧ exec (.wrAdsrHi v d n) s = exec (.wrAdsrHi v d 0) c ∧
    exec (.wrAdsrVol v d n) s = exec (.wrAdsrVol v d 0) c ∧ exec (.wrRaddr v d n) s = exec (.wrRaddr v d 0) c)

/-! ## RAM transfers (41_ram_transfer.md) -/

/-- A TADDR write stores the value and sets the cursor to 8 times it (R113). -/
def Obligations.TransferAddressWriteSetsTheCursor : Prop :=
  ∀ (d : Half) (n : Nat) (s : State), decode (.wr 0x1A6 d n) = .ok (.wrTaddr d) ∧
    ∃ t, exec (.wrTaddr d) s = .next t ∧ t = { s with taddr := d, cursor := t.cursor, reply := .none } ∧
      t.cursor.toNat = 8 * d.toNat

/-- A TDATA write stores the low byte at the cursor and the high byte after it, modulo `RAM_SIZE`, moves the cursor by 2 and
changes nothing else (R115, R122). The premise rules out RAM lists that no run reaches (`StepKeepsTheInvariant`). -/
def Obligations.TransferDataWriteStoresTwoBytesAtTheCursor : Prop :=
  ∀ (d : Half) (n : Nat) (s : State), decode (.wr 0x1A8 d n) = .ok (.wrTdata d) ∧
    ∃ t, exec (.wrTdata d) s = .next t ∧ t = { s with ram := t.ram, cursor := t.cursor, reply := .none } ∧
      t.cursor.toNat = (s.cursor.toNat + 2) % 0x80000 ∧
      (s.ram.wf = true → ∀ a, a < 0x80000 → t.readByte a =
        if a = s.cursor.toNat then BitVec.ofNat 8 (d.toNat % 256)
        else if a = (s.cursor.toNat + 1) % 0x80000 then BitVec.ofNat 8 (d.toNat / 256)
        else s.readByte a)

/-- A DMA write: byte `j` of word `k` lands at `cursor + 4k + j` modulo `RAM_SIZE`, every other byte and every other field is
unchanged, and the cursor moves by `4n`. A list longer than the RAM is the writes of its parts one after the other, so later words
overwrite earlier ones (R124). The premise on the RAM list rules out lists that no run reaches. -/
def Obligations.DmaWriteStoresItsWordsAtTheCursor : Prop :=
  ∀ (ws : List Word) (s : State), decode (encode (.dmaWrite ws)) = .ok (.dmaWrite ws) ∧
    ∃ t, exec (.dmaWrite ws) s = .next t ∧ t = { s with ram := t.ram, cursor := t.cursor, reply := .none } ∧
      t.cursor.toNat = (s.cursor.toNat + 4 * ws.length) % 0x80000 ∧
      (s.ram.wf = true → 4 * ws.length ≤ 0x80000 → ∀ x, x < 0x80000 →
        t.readByte (s.cursor.toNat + x) =
          if h : x / 4 < ws.length then BitVec.ofNat 8 (ws[x / 4].toNat / 2 ^ (8 * (x % 4)))
          else s.readByte (s.cursor.toNat + x)) ∧
      (∀ us vs u, ws = us ++ vs → exec (.dmaWrite us) s = .next u → exec (.dmaWrite vs) u = .next t)

/-- A DMA read returns the words at the cursor, low byte first and modulo `RAM_SIZE`, moves the cursor by `4n` and changes
nothing else (R125). -/
def Obligations.DmaReadReturnsTheWordsAtTheCursor : Prop :=
  ∀ (n : Nat) (s : State), decode (encode (.dmaRead n)) = .ok (.dmaRead n) ∧
    ∃ ws t, exec (.dmaRead n) s = .next t ∧ t = { s with cursor := t.cursor, reply := .words ws } ∧
      t.cursor.toNat = (s.cursor.toNat + 4 * n) % 0x80000 ∧ ws.length = n ∧
      ∀ (k : Nat) (h : k < ws.length), ws[k].toNat =
        (s.readByte (s.cursor.toNat + 4 * k)).toNat + 2 ^ 8 * (s.readByte (s.cursor.toNat + 4 * k + 1)).toNat +
        2 ^ 16 * (s.readByte (s.cursor.toNat + 4 * k + 2)).toNat + 2 ^ 24 * (s.readByte (s.cursor.toNat + 4 * k + 3)).toNat

/-- What a DMA write of at most `RAM_SIZE` bytes stored, a DMA read of as many words from the same cursor returns, also across
the end of the RAM. -/
def Obligations.DmaReadReturnsWhatDmaWriteStored : Prop :=
  ∀ (ws : List Word) (s t : State), s.ram.wf = true → 4 * ws.length ≤ 0x80000 → exec (.dmaWrite ws) s = .next t →
    ∃ u, exec (.dmaRead ws.length) { t with cursor := s.cursor } = .next u ∧ u.reply = .words ws ∧ u.ram = t.ram ∧
      u.cursor = t.cursor

/-- The cursor moves by the bytes transferred, modulo `RAM_SIZE`, and otherwise only by a TADDR write and by RESET (R127). -/
def Obligations.CursorMovesOnlyByTransfersTaddrAndReset : Prop :=
  ∀ (i : Instr) (s t : State), exec i s = .next t →
    (∀ d, i = .wrTdata d → t.cursor.toNat = (s.cursor.toNat + 2) % 0x80000) ∧
    (∀ ws, i = .dmaWrite ws → t.cursor.toNat = (s.cursor.toNat + 4 * ws.length) % 0x80000) ∧
    (∀ n, i = .dmaRead n → t.cursor.toNat = (s.cursor.toNat + 4 * n) % 0x80000) ∧
    ((∀ d, i ≠ .wrTdata d) → (∀ ws, i ≠ .dmaWrite ws) → (∀ n, i ≠ .dmaRead n) → (∀ d, i ≠ .wrTaddr d) → i ≠ .reset →
      t.cursor = s.cursor)

/-- `ram_transfer_mode`, and every other bit of SPUCNT, gates no transfer: under another SPUCNT value the same transfer does the
same (R126). -/
def Obligations.TransferModeGatesNoTransfer : Prop :=
  ∀ (m d : Half) (ws : List Word) (n : Nat) (s t : State),
    (exec (.wrTdata d) s = .next t → exec (.wrTdata d) { s with spucnt := m } = .next { t with spucnt := m }) ∧
    (exec (.dmaWrite ws) s = .next t → exec (.dmaWrite ws) { s with spucnt := m } = .next { t with spucnt := m }) ∧
    (exec (.dmaRead n) s = .next t → exec (.dmaRead n) { s with spucnt := m } = .next { t with spucnt := m })

/-! ## Key control and envelope (42_voice_adsr.md) -/

/-- KeyOn: the four effects of R128 and the Attack parameters of R131; counter, predictor history, sample buffers and block
flags stay, and ENDX only loses the voice's bit where the parameter says so. -/
def Obligations.KeyOnRestartsTheVoice : Prop :=
  ∀ (p : Config.Params) (v : VoiceId) (s : State),
    let x := s.voice v
    let shift := x.adsrLow.toNat / 2 ^ 10 % 32
    let step := x.adsrLow.toNat / 2 ^ 8 % 4 + 4
    OnlyVoice v
      { x with
        currentAddress := x.startAddress, adsrVolume := 0, hasSamples := false, phase := .attack,
        target := { level := 0x7FFF, step := step, shift := shift, decreasing := false, exponential := x.adsrLow.msb },
        adsrTicks := BitVec.ofNat 32 (2 ^ (shift - 11)), adsrTicksRemaining := BitVec.ofNat 32 (2 ^ (shift - 11)),
        adsrStep := (7 - (step : Int)) * 2 ^ (11 - shift) }
      { s with endx := (keyOn p v s).endx } (keyOn p v s) ∧
    ∀ b, (keyOn p v s).endx.getLsbD b = (s.endx.getLsbD b && !(p.endxClearOnKeyOn && decide (b = v.val)))

/-- KeyOff: nothing for an Off voice; else Release with the parameters of the current `adsr_high`, the level kept and the tick
count restarted (R129, R131). -/
def Obligations.KeyOffReleasesAnOnVoice : Prop :=
  ∀ (v : VoiceId) (s : State),
    let x := s.voice v
    let shift := x.adsrHigh.toNat % 32
    (x.phase = .off → keyOff v s = s) ∧
    (x.phase ≠ .off → OnlyVoice v
      { x with
        phase := .release,
        target := { level := 0, step := 0, shift := shift, decreasing := true, exponential := decide (x.adsrHigh.toNat / 32 % 2 = 1) },
        adsrTicks := BitVec.ofNat 32 (2 ^ (shift - 11)), adsrTicksRemaining := BitVec.ofNat 32 (2 ^ (shift - 11)),
        adsrStep := -8 * 2 ^ (11 - shift) } s (keyOff v s))

/-- KeyOn of different voices commutes, so the order of the voices within one write cannot be observed (D26). -/
def Obligations.KeyOnOrderIsUnobservable : Prop :=
  ∀ (p : Config.Params) (u v : VoiceId) (s : State), u ≠ v → keyOn p u (keyOn p v s) = keyOn p v (keyOn p u s)

/-- EnterPhase: the five rows of the PhaseTable, the tick count and the step of each, and nothing else changed (R131). -/
def Obligations.EnterPhaseDerivesTheTableParameters : Prop :=
  ∀ (v : Voice) (p : Phase),
    let u := v.enterPhase p
    let low := v.adsrLow.toNat
    let high := v.adsrHigh.toNat
    let raw : Int := if u.target.decreasing then -8 + u.target.step else 7 - u.target.step
    u = { v with phase := p, target := u.target, adsrTicks := u.adsrTicks, adsrTicksRemaining := u.adsrTicks,
                 adsrStep := u.adsrStep } ∧
    u.target = (match p with
      | .off => { level := 0, step := 0, shift := 0, decreasing := false, exponential := false }
      | .attack => { level := 0x7FFF, step := low / 2 ^ 8 % 4 + 4, shift := low / 2 ^ 10 % 32, decreasing := false,
                     exponential := decide (low / 2 ^ 15 = 1) }
      | .decay => { level := (low % 16 + 1) * 0x800, step := 0, shift := low / 2 ^ 4 % 16, decreasing := true,
                    exponential := true }
      | .sustain => { level := if high / 2 ^ 14 % 2 = 1 then -1 else 1, step := 0, shift := high / 2 ^ 8 % 32,
                      decreasing := decide (high / 2 ^ 14 % 2 = 1), exponential := decide (high / 2 ^ 15 = 1) }
      | .release => { level := 0, step := 0, shift := high % 32, decreasing := true,
                      exponential := decide (high / 2 ^ 5 % 2 = 1) }) ∧
    u.adsrTicks.toNat = 2 ^ (u.target.shift - 11) ∧ 1 ≤ u.adsrTicks.toNat ∧ u.adsrTicks.toNat ≤ 2 ^ 20 ∧
    (u.target.shift ≤ 11 → u.adsrTicks.toNat = 1 ∧ u.adsrStep = raw * 2 ^ (11 - u.target.shift)) ∧
    (11 ≤ u.target.shift → u.adsrStep = raw) ∧ -16384 ≤ u.adsrStep ∧ u.adsrStep ≤ 14336

/-- TickADSR of an on voice: count down; on reaching 0 clamp the new level into [0, 0x7FFF], then enter the next phase when a
phase other than Sustain has reached its level, else reload the count (R130, R133). -/
def Obligations.EnvelopeTickFollowsTheRecurrence : Prop :=
  ∀ v : Voice, v.phase ≠ .off →
    let new : Int := min (max (v.adsrVolume.toInt + v.adsrStep) 0) 0x7FFF
    let reached : Prop := (v.target.decreasing = true ∧ new ≤ v.target.level) ∨
      (v.target.decreasing = false ∧ v.target.level ≤ new)
    (v.adsrTicksRemaining ≠ 1#32 → v.tickAdsr = { v with adsrTicksRemaining := v.adsrTicksRemaining - 1 }) ∧
    (v.adsrTicksRemaining = 1#32 → v.tickAdsr.adsrVolume.toInt = new ∧
      (v.phase = .attack ∧ reached → v.tickAdsr = Voice.enterPhase { v with adsrVolume := v.tickAdsr.adsrVolume } .decay) ∧
      (v.phase = .decay ∧ reached → v.tickAdsr = Voice.enterPhase { v with adsrVolume := v.tickAdsr.adsrVolume } .sustain) ∧
      (v.phase = .release ∧ reached → v.tickAdsr = Voice.enterPhase { v with adsrVolume := v.tickAdsr.adsrVolume } .off) ∧
      (v.phase = .sustain ∨ ¬reached →
        v.tickAdsr = { v with adsrVolume := v.tickAdsr.adsrVolume, adsrTicksRemaining := v.adsrTicks }))

/-- The Attack of `attack_shift = 10`, `attack_step = 0`: from KeyOn the level is `6k` after `k` ticks, and the 5462nd tick
reaches 0x7FFF and enters Decay (70_reset_and_hazards.md section 3). -/
def Obligations.SlowAttackClimbsBySixAndPeaksAtTick5462 : Prop :=
  ∀ v : Voice, v.adsrLow.toNat / 2 ^ 8 % 2 ^ 7 = 0x28 →
    (∀ k, k ≤ 5461 → (Voice.tickAdsr^[k] v.keyOn).phase = .attack ∧
      (Voice.tickAdsr^[k] v.keyOn).adsrVolume.toInt = 6 * (k : Int)) ∧
    (Voice.tickAdsr^[5462] v.keyOn).phase = .decay ∧ (Voice.tickAdsr^[5462] v.keyOn).adsrVolume.toInt = 0x7FFF

/-! ## ADPCM (43_adpcm.md) -/

/-- DecodeBlock: there is a sequence `h` of unclamped predictor outputs, starting from the voice's history, that follows the filter
and the shift quantizer nibble by nibble; the samples are its clamped values, the history its last two, and the old tail and
the flags are kept as R136 and R141 say. Nothing else changes. -/
def Obligations.BlockDecodeFollowsThePredictor : Prop :=
  ∀ (v : Voice) (blk : Block), ∃ h : Nat → Int,
    let u := v.decodeBlock blk
    let head := (blk 0).toNat
    let flags := (blk 1).toNat
    let filter := min (head / 16 % 8) 4
    h 0 = v.last1 ∧ h 1 = v.last0 ∧
    (∀ n : Fin 28,
      let byte := (blk ⟨2 + n.val / 2, by omega⟩).toNat
      let x : Int := (if n.val % 2 = 0 then byte % 16 else byte / 16 : Nat)
      let signed : Int := if x < 8 then x else x - 16
      h (n.val + 2) = signed * 4096 / 2 ^ (head % 16) +
        Int.tdiv (h (n.val + 1) * [0, 60, 115, 98, 122].getD filter 0 + h n.val * [0, 0, -52, -55, -60].getD filter 0 + 32) 64 ∧
      (u.blockSamples[n]).toInt = min (max (h (n.val + 2)) (-32768)) 32767) ∧
    u = { v with
      blockSamples := u.blockSamples, last0 := h 29, last1 := h 28,
      prevSamples := #v[v.blockSamples[25], v.blockSamples[26], v.blockSamples[27]],
      blockFlags := { loopEnd := decide (flags % 2 = 1), loopRepeat := decide (flags / 2 % 2 = 1),
                      loopStart := decide (flags / 4 % 2 = 1) } }

/-- With filter 0 every sample is its quantized nibble, which is an exact `s16` between -32768 and 28672. -/
def Obligations.FilterZeroSamplesAreTheQuantizedNibbles : Prop :=
  ∀ (v : Voice) (blk : Block) (n : Fin 28), (blk 0).toNat / 16 % 8 = 0 →
    ((v.decodeBlock blk).blockSamples[n]).toInt = quantize (blockNibble blk n) ((blk 0).toNat % 16) ∧
    -32768 ≤ quantize (blockNibble blk n) ((blk 0).toNat % 16) ∧ quantize (blockNibble blk n) ((blk 0).toNat % 16) ≤ 28672

/-! ## Sample generator (44_sample_generator.md) -/

/-- Step 2: a voice without samples checks the IRQ at its current address, reads the 16 bytes there modulo `RAM_SIZE`, decodes them,
and takes the repeat address from a block whose `loop_start` is 1; a voice with samples does nothing (R135, R150). -/
def Obligations.FetchReadsDecodesAndLatchesTheRepeatAddress : Prop :=
  ∀ (i : VoiceId) (s : State),
    let x := s.voice i
    let blk : Block := fun j => s.readByte (8 * x.currentAddress.toNat + j.val)
    (x.hasSamples = true → fetchStep i s = s) ∧
    (x.hasSamples = false → OnlyVoice i
      { x.decodeBlock blk with
        hasSamples := true
        repeatAddress := if (blk 1).toNat / 4 % 2 = 1 then x.currentAddress else x.repeatAddress }
      (irqCheck x.currentAddress s) (fetchStep i s))

/-- Steps 2 to 4: between the fetch and the block end the pitch step adds the rate, clamped to 0x4000, to the voice's counter and
changes nothing else, of this voice, of another or of the rest of the state. A counter in range is reduced by one block's length when
it passes it, and stays in range (R151, R152). -/
def Obligations.CounterStepsByTheClampedRateModuloTheBlock : Prop :=
  ∀ (i : VoiceId) (s : State),
    (let fetched := fetchStep i s
     let x := fetched.voice i
     ∃ u, OnlyVoice i { x with counter := x.counter + BitVec.ofNat 32 (min x.sampleRate.toNat 0x4000) } fetched u ∧
      advanceVoice i s = blockEndStep i u) ∧
    ((s.voice i).counter.toNat < 0x1C000 →
      let stepped := (s.voice i).counter.toNat + min (s.voice i).sampleRate.toNat 0x4000
      ((advanceVoice i s).voice i).counter.toNat = (if stepped < 0x1C000 then stepped else stepped - 0x1C000) ∧
      ((advanceVoice i s).voice i).counter.toNat < 0x1C000 ∧ sampleIndex ((advanceVoice i s).voice i).counter < 28)

/-- Step 4 at a block end: the completed block's flags choose among ENDX with KeyOff, the repeat address, and the next block;
the sample buffers and the envelope are kept on the last two paths (R152 to R155). -/
def Obligations.BlockEndFollowsTheLoopFlags : Prop :=
  ∀ (i : VoiceId) (s : State),
    let x := s.voice i
    let left := { x with counter := x.counter - 0x1C000#32, hasSamples := false }
    (sampleIndex x.counter < 28 → blockEndStep i s = s) ∧
    (28 ≤ sampleIndex x.counter →
      (x.blockFlags.loopEnd = false →
        OnlyVoice i { left with currentAddress := x.currentAddress + 2 } s (blockEndStep i s)) ∧
      (x.blockFlags.loopEnd = true → x.blockFlags.loopRepeat = true →
        OnlyVoice i { left with currentAddress := x.repeatAddress } s (blockEndStep i s)) ∧
      (x.blockFlags.loopEnd = true → x.blockFlags.loopRepeat = false →
        OnlyVoice i (Voice.keyOff left) { s with endx := s.endx ||| 1#32 <<< i.val } (blockEndStep i s)))

/-- An Off voice contributes (0, 0) and changes no state (R149). -/
def Obligations.OffVoiceIsSilentAndUnchanged : Prop :=
  ∀ (p : Config.Params) (i : VoiceId) (s : State), (s.voice i).phase = .off →
    (sampleVoice p i s).state = s ∧ (sampleVoice p i s).left = 0 ∧ (sampleVoice p i s).right = 0

/-- Sampling one voice leaves every other voice, every other voice's ENDX bit, and everything outside the sample path alone
(60_exceptions.md section 4). -/
def Obligations.SamplingOneVoiceLeavesTheOthersAlone : Prop :=
  ∀ (p : Config.Params) (i : VoiceId) (s : State), OnlySampling s (sampleVoice p i s).state ∧
    (∀ u, u ≠ i → (sampleVoice p i s).state.voice u = s.voice u) ∧
    (∀ b, b ≠ i.val → (sampleVoice p i s).state.endx.getLsbD b = s.endx.getLsbD b) ∧
    (s.endx.getLsbD i.val = true → (sampleVoice p i s).state.endx.getLsbD i.val = true) ∧
    (sampleVoice p i s).state.frames = s.frames ∧ (sampleVoice p i s).state.cdFifo = s.cdFifo

/-- Interpolation: four taps over the three samples kept from the block before and the 28 of this one, each shifted right by 15 and
wrapped to 16 bits, and the wrapped sum (R156, R157). -/
def Obligations.InterpolationIsTheFourTapSum : Prop :=
  ∀ (p : Config.Params) (v : Voice), v.counter.toNat / 2 ^ 12 % 2 ^ 5 < 28 →
    let k := v.counter.toNat / 2 ^ 12 % 2 ^ 5
    let ix := v.counter.toNat / 2 ^ 4 % 2 ^ 8
    let buffer : List Half := v.prevSamples.toList ++ v.blockSamples.toList
    let tap : Nat → Nat → Int := fun g j =>
      Int.bmod ((p.gauss (Fin.ofNat 512 g)).toInt * (buffer.getD j 0).toInt / 32768) 65536
    v.interpolate p =
      Int.bmod (tap (0x0FF - ix) k + tap (0x1FF - ix) (k + 1) + tap (0x100 + ix) (k + 2) + tap ix (k + 3)) 65536

/-- Steps 6 to 8 of an on voice: the interpolated sample times the level from before this sample's tick, then the two volumes, each
product shifted right by 15 and not clamped; the envelope ticks once, and nothing else differs from the state after step 4 but the
model's own draw counter (R158 to R160). The multipliers are `DECODE_VOLUME` of the registers: the open parameter for bit 15 = 0, so twice
the signed low 15 bits where it is the spec's default (log entry 7); for bit 15 = 1 a draw, some `s16` (log entry 8). -/
def Obligations.OnVoiceContributionIsItsScaledSample : Prop :=
  ∀ (p : Config.Params) (i : VoiceId) (s : State), (s.voice i).phase ≠ .off →
    let a := (advanceVoice i s).voice i
    let voiced : Int := a.interpolate p * a.adsrVolume.toInt / 32768
    let r := sampleVoice p i s
    OnlyVoice i a.tickAdsr { advanceVoice i s with draws := r.state.draws } r.state ∧
    (a.volumeLeft.getLsbD 15 = false → r.left = voiced * (p.decodeVolume a.volumeLeft).toInt / 32768) ∧
    (a.volumeRight.getLsbD 15 = false → r.right = voiced * (p.decodeVolume a.volumeRight).toInt / 32768) ∧
    ((∀ x : Half, x.getLsbD 15 = false → p.decodeVolume x = defaultDecodeVolume x) →
      (a.volumeLeft.getLsbD 15 = false → r.left = voiced * (Int.bmod a.volumeLeft.toNat (2 ^ 15) * 2) / 32768) ∧
      (a.volumeRight.getLsbD 15 = false → r.right = voiced * (Int.bmod a.volumeRight.toNat (2 ^ 15) * 2) / 32768)) ∧
    (∃ m : Half, r.left = voiced * m.toInt / 32768) ∧ (∃ m : Half, r.right = voiced * m.toInt / 32768)

/-- The volume stages stay within a sign bit of 16 bits for every parameter choice, `DECODE_VOLUME` among them: no channel of a voice
exceeds 32768 in magnitude (R146, R158, R160). -/
def Obligations.VoiceContributionsAreBounded : Prop :=
  ∀ (p : Config.Params) (i : VoiceId) (s : State),
    (∀ v : Voice, -32768 ≤ v.voiced p ∧ v.voiced p ≤ 32768) ∧
    -32768 ≤ (sampleVoice p i s).left ∧ (sampleVoice p i s).left ≤ 32768 ∧
    -32768 ≤ (sampleVoice p i s).right ∧ (sampleVoice p i s).right ≤ 32768

/-- A sample in which one voice alone may be on and no CD audio plays: the block's state is that of sampling this voice, and the frame is
its pair clamped to `s16` (R145, R147, R149). -/
def Obligations.LoneVoiceFrameIsItsClampedPair : Prop :=
  ∀ (p : Config.Params) (i : VoiceId) (s : State), s.spucnt.getLsbD 15 = true → s.spucnt.getLsbD 0 = false →
    (∀ u, u ≠ i → (s.voice u).phase = .off) →
    let r := sampleVoice p i s
    generateSample p s =
      { r.state with
        frames := s.frames ++ [{ left := BitVec.ofInt 16 (min (max r.left (-32768)) 32767),
                                 right := BitVec.ofInt 16 (min (max r.right (-32768)) 32767) }] }

/-- One sample of the whole unit: with `enable` 1 the voices are sampled in ascending order, each on the state the one before left, and
their pairs are added as integers; with `cd_audio_enable` 1 the oldest CD frame, if there is one, is taken from the FIFO and added
unscaled; the one frame appended is the sum, clamped once. With `enable` 0 no voice is sampled. Nothing else differs from the state the
last voice left (R145, R147, R162). -/
def Obligations.FrameIsTheClampedSumOfTheVoicesAndTheCdFrame : Prop :=
  ∀ (p : Config.Params) (s : State), ∃ before : Nat → State,
    before 0 = s ∧ (∀ i : VoiceId, before (i.val + 1) = (sampleVoice p i (before i.val)).state) ∧
    let enable := s.spucnt.getLsbD 15
    let cdEnable := s.spucnt.getLsbD 0
    let mixed := if enable then before 24 else s
    let voicesLeft : Int := if enable then ∑ i : VoiceId, (sampleVoice p i (before i.val)).left else 0
    let voicesRight : Int := if enable then ∑ i : VoiceId, (sampleVoice p i (before i.val)).right else 0
    let cd : Frame := if cdEnable then s.cdFifo.headD { left := 0, right := 0 } else { left := 0, right := 0 }
    generateSample p s =
      { mixed with
        cdFifo := if cdEnable then s.cdFifo.tail else s.cdFifo
        frames := s.frames ++
          [{ left := BitVec.ofInt 16 (min (max (voicesLeft + cd.left.toInt) (-32768)) 32767)
             right := BitVec.ofInt 16 (min (max (voicesRight + cd.right.toInt) (-32768)) 32767) }] }

/-- Execute: the carry keeps the remainder modulo 0x300, also when the unit is fully disabled; when either enable is 1 it generates its
samples one after the other, each with one frame, and else none; nothing outside the sample path changes (R144, R147). -/
def Obligations.ExecuteEmitsOneFrameForEachSample : Prop :=
  ∀ (n : Nat) (s : State), decode (encode (.execute n)) = .ok (.execute n) ∧
    ∃ t, exec (.execute n) s = .next t ∧ OnlySampling { s with reply := .none } t ∧
      t.ticksCarry = (n + s.ticksCarry) % 0x300 ∧
      t.frames.length = s.frames.length +
        (if s.spucnt.getLsbD 15 = true ∨ s.spucnt.getLsbD 0 = true then (n + s.ticksCarry) / 0x300 else 0) ∧
      (s.spucnt.getLsbD 15 = true ∨ s.spucnt.getLsbD 0 = true →
        t = { (generateSample Config.params)^[(n + s.ticksCarry) / 0x300] { s with ticksCarry := t.ticksCarry } with reply := .none }) ∧
      (∀ a, t.readByte a = s.readByte a)

/-- The main volumes, the reverb-on register and the bits of SPUCNT other than `enable`, `irq9_enable` and `cd_audio_enable` are stored and
applied to no sample: Execute from states that differ in them alone gives states that differ in them alone, so the same frames, IRQ
events and voices (R16, R18, R21, R91, R103). -/
def Obligations.MainVolumeReverbAndStoredControlBitsReachNoSample : Prop :=
  ∀ (n : Nat) (l r c : Half) (e : Word) (s t : State),
    c.getLsbD 15 = s.spucnt.getLsbD 15 → c.getLsbD 6 = s.spucnt.getLsbD 6 → c.getLsbD 0 = s.spucnt.getLsbD 0 →
    exec (.execute n) s = .next t →
    exec (.execute n) { s with mainVolL := l, mainVolR := r, eon := e, spucnt := c } =
      .next { t with mainVolL := l, mainVolR := r, eon := e, spucnt := c }

/-- Delivering ticks in two parts is delivering their sum: how the scheduler cuts time cannot be heard (R144). -/
def Obligations.ExecuteInTwoPartsIsExecuteOfTheSum : Prop :=
  ∀ (m n : Nat) (s t : State), exec (.execute m) s = .next t → exec (.execute n) t = exec (.execute (m + n)) s

/-- With both enables 0 Execute moves the carry and nothing else; the samples are lost (R144, R176). -/
def Obligations.DisabledUnitOnlyMovesTheCarry : Prop :=
  ∀ (n : Nat) (s : State), s.spucnt.getLsbD 15 = false → s.spucnt.getLsbD 0 = false →
    exec (.execute n) s = .next { s with ticksCarry := (n + s.ticksCarry) % 0x300, reply := .none }

/-- With `enable` 0 and `cd_audio_enable` 1 the frames are the CD frames in order, then silence, and no voice moves (R145, R162). -/
def Obligations.CdAudioAlonePlaysTheFifoThenSilence : Prop :=
  ∀ (n : Nat) (s : State), s.spucnt.getLsbD 15 = false → s.spucnt.getLsbD 0 = true →
    let k := (n + s.ticksCarry) / 0x300
    exec (.execute n) s = .next
      { s with
        ticksCarry := (n + s.ticksCarry) % 0x300
        cdFifo := s.cdFifo.drop k
        frames := s.frames ++ (s.cdFifo.take k ++ List.replicate (k - s.cdFifo.length) { left := 0, right := 0 })
        reply := .none }

/-- With every voice Off, `enable` 1 and no CD audio, Execute emits silent frames and changes nothing but the carry (R145, R149). -/
def Obligations.AllVoicesOffEmitSilence : Prop :=
  ∀ (n : Nat) (s : State), s.spucnt.getLsbD 15 = true → s.spucnt.getLsbD 0 = false → (∀ v, (s.voice v).phase = .off) →
    exec (.execute n) s = .next
      { s with
        ticksCarry := (n + s.ticksCarry) % 0x300
        frames := s.frames ++ List.replicate ((n + s.ticksCarry) / 0x300) { left := 0, right := 0 }
        reply := .none }

/-- A CD push appends its frame; into a full FIFO it first drops the oldest frame and logs code 3 (R161). -/
def Obligations.CdPushAppendsAndDropsTheOldestWhenFull : Prop :=
  ∀ (l r : Half) (s : State), decode (encode (.cdPush l r)) = .ok (.cdPush l r) ∧
    (s.cdFifo.length ≠ Config.params.cdFifoCapacity →
      exec (.cdPush l r) s = .next { s with cdFifo := s.cdFifo ++ [{ left := l, right := r }], reply := .none }) ∧
    (s.cdFifo.length = Config.params.cdFifoCapacity →
      exec (.cdPush l r) s = .next
        { s with cdFifo := s.cdFifo.drop 1 ++ [{ left := l, right := r }], diags := s.diags ++ [.cdFifoOverflow],
                 reply := .none })

/-! ## IRQ and reset (60_exceptions.md, 70_reset_and_hazards.md) -/

/-- IrqCheck: with `irq9_enable` 1 and IRQ_ADDR equal to `A` or to `A + 1` without wrap the flag is set, with one event when it was
0; in every other case nothing changes (R165). -/
def Obligations.IrqCheckMatchesTheBlockAddresses : Prop :=
  ∀ (a : Half) (s : State),
    let hit : Prop := s.spucnt.getLsbD 6 = true ∧ (s.irqAddr.toNat = a.toNat ∨ s.irqAddr.toNat = a.toNat + 1)
    (hit → s.irq9Flag = false → irqCheck a s = { s with irq9Flag := true, irqEvents := s.irqEvents ++ [.rise] }) ∧
    (hit → s.irq9Flag = true → irqCheck a s = s) ∧ (¬hit → irqCheck a s = s)

/-- RESET: every piece of block state is at its reset value, the RAM reads 0x00 everywhere, and the output history stays (R177).
Nothing is said here of the model's own three fields. -/
def Obligations.ResetRestoresEveryResetValue : Prop :=
  ∀ s : State, decode (encode .reset) = .ok .reset ∧ ∃ t, exec .reset s = .next t ∧
    t = { State.reset with
      frames := s.frames
      irqEvents := s.irqEvents
      diags := s.diags
      draws := t.draws
      inbox := t.inbox
      reply := t.reply } ∧
    t.spucnt = 0 ∧ t.irq9Flag = false ∧ t.mainVolL = 0 ∧ t.mainVolR = 0 ∧ t.kon = 0 ∧ t.koff = 0 ∧ t.endx = 0 ∧ t.eon = 0 ∧
    t.taddr = 0 ∧ t.cursor = 0 ∧ t.irqAddr = 0 ∧ t.ticksCarry = 0 ∧ t.cdFifo = [] ∧ t.dmaRequest = false ∧
    (∀ a, t.readByte a = 0x00) ∧
    (∀ v, t.voice v =
      { volumeLeft := 0, volumeRight := 0, sampleRate := 0, startAddress := 0, adsrLow := 0, adsrHigh := 0, adsrVolume := 0,
        repeatAddress := 0, currentAddress := 0, counter := 0, blockSamples := Vector.replicate 28 0,
        prevSamples := Vector.replicate 3 0, last0 := 0, last1 := 0,
        blockFlags := { loopEnd := false, loopRepeat := false, loopStart := false }, hasSamples := false, phase := .off,
        target := { level := 0, step := 0, shift := 0, decreasing := false, exponential := false },
        adsrTicks := 0, adsrTicksRemaining := 0, adsrStep := 0 })

/-- After RESET the block is quiet: however many ticks are delivered, no frame, no event and no request comes, and every voice is
still Off (70_reset_and_hazards.md section 1). -/
def Obligations.BlockIsQuietAfterReset : Prop :=
  ∀ (n : Nat) (s t u : State), exec .reset s = .next t → exec (.execute n) t = .next u →
    u.frames = s.frames ∧ u.irqEvents = s.irqEvents ∧ u.dmaRequest = false ∧ u.irqLine = false ∧
    ∀ v, (u.voice v).phase = .off
end

