-- ==== Sys2Proof/Laws/Decode.lean ====
section
/-! SUPPORT. The fields of an assembled transaction word (R61) and the offsets of the voice registers (R62). -/

namespace Sys2Proof

@[simp] theorem kindField_makeWord (k : BitVec 3) (o : Offset) (d : Half) : kindField (makeWord k o d) = k := by
  ext i hi; simp only [kindField, makeWord, BitVec.getElem_extractLsb', BitVec.getLsbD_append]
  have h1 : ¬ 29 + i < 16 := by omega
  have h2 : ¬ 29 + i - 16 < 10 := by omega
  have h3 : ¬ 29 + i - 16 - 10 < 3 := by omega
  have h4 : 29 + i - 16 - 10 - 3 = i := by omega
  simp [h1, h2, h3, h4, hi]

@[simp] theorem zeroField_makeWord (k : BitVec 3) (o : Offset) (d : Half) : zeroField (makeWord k o d) = 0#3 := by
  ext i hi; simp only [zeroField, makeWord, BitVec.getElem_extractLsb', BitVec.getLsbD_append]
  have h1 : ¬ 26 + i < 16 := by omega
  have h2 : ¬ 26 + i - 16 < 10 := by omega
  have h3 : 26 + i - 16 - 10 < 3 := by omega
  simp [h1, h2, h3]

@[simp] theorem offField_makeWord (k : BitVec 3) (o : Offset) (d : Half) : offField (makeWord k o d) = o := by
  ext i hi; simp only [offField, makeWord, BitVec.getElem_extractLsb', BitVec.getLsbD_append]
  have h1 : ¬ 16 + i < 16 := by omega
  have h2 : 16 + i - 16 = i := by omega
  simp [h2, hi]

@[simp] theorem dataField_makeWord (k : BitVec 3) (o : Offset) (d : Half) : dataField (makeWord k o d) = d := by
  ext i hi; simp only [dataField, makeWord, BitVec.getElem_extractLsb', BitVec.getLsbD_append]
  simp [hi]

/-- The offset and data bits of a word that has neither. -/
theorem lowBits_makeWord_zero (k : BitVec 3) : (makeWord k 0#10 0#16).extractLsb' 0 26 = 0#26 := by
  revert k; decide

/-- `off = 16v + 2 reg` as a number: it fits in ten bits (R62). -/
theorem voiceOffset_toNat (v : VoiceId) (r : Fin 8) : (voiceOffset v r).toNat = 16 * v.val + 2 * r.val := by
  rw [voiceOffset, BitVec.toNat_ofNat, Nat.mod_eq_of_lt]; omega

/-- The register number of a voice offset (R62). -/
theorem regOfOffset_voiceOffset : ∀ (v : VoiceId) (r : Fin 8), regOfOffset (voiceOffset v r) = r := by decide

/-- A word is its four fields (R61). -/
theorem makeWord_fields (w : Word) (h : zeroField w = 0#3) : makeWord (kindField w) (offField w) (dataField w) = w := by
  apply BitVec.eq_of_toNat_eq
  have hz : w.toNat / 2 ^ 26 % 2 ^ 3 = 0 := by
    have := congrArg BitVec.toNat h
    simpa [zeroField, BitVec.extractLsb', Nat.shiftRight_eq_div_pow] using this
  simp only [makeWord, BitVec.toNat_append, kindField, offField, dataField, BitVec.extractLsb'_toNat, Nat.shiftRight_eq_div_pow]
  rw [← Nat.shiftLeft_add_eq_or_of_lt (by omega), ← Nat.shiftLeft_add_eq_or_of_lt (by omega),
    ← Nat.shiftLeft_add_eq_or_of_lt (by simp)]
  simp only [Nat.shiftLeft_eq, BitVec.toNat_ofNat]
  have := w.isLt
  omega

/-! The rows at an offset (R62 to R64) -/

theorem decode_rd (off : Offset) : decode (.rd off) = decodeRegRead off := by simp [decode, Request.rd]

theorem decode_wr (off : Offset) (data : Half) (tSync : Nat) :
    decode (.wr off data tSync) = decodeRegWrite off data tSync := by simp [decode, Request.wr]

/-- The offset `16v + 2 reg` reads voice register `reg` of voice `v`. -/
theorem decodeRegRead_voice (v : VoiceId) (r : Fin 8) : decodeRegRead (voiceOffset v r) = .ok (voiceRead v r) := by
  have h := voiceOffset_toNat v r
  have h1 : (voiceOffset v r).toNat / 16 < 24 := by omega
  have h2 : (⟨(voiceOffset v r).toNat / 16, h1⟩ : VoiceId) = v := Fin.ext (by simp only; omega)
  rw [decodeRegRead, if_neg (by omega), if_neg (by omega), dif_pos h1, regOfOffset_voiceOffset, h2]

/-- The offset `16v + 2 reg` writes voice register `reg` of voice `v`. -/
theorem decodeRegWrite_voice (v : VoiceId) (r : Fin 8) (data : Half) (tSync : Nat) :
    decodeRegWrite (voiceOffset v r) data tSync = .ok (voiceWrite v r data tSync) := by
  have h := voiceOffset_toNat v r
  have h1 : (voiceOffset v r).toNat / 16 < 24 := by omega
  have h2 : (⟨(voiceOffset v r).toNat / 16, h1⟩ : VoiceId) = v := Fin.ext (by simp only; omega)
  rw [decodeRegWrite, if_neg (by omega), if_neg (by omega), dif_pos h1, regOfOffset_voiceOffset, h2]

/-- An unknown offset is even, inside the window, above the voice registers, and none of the global registers' (R64). -/
theorem isUnknownOffset_cases : ∀ off : Offset, isUnknownOffset off = true →
    off.toNat % 2 = 0 ∧ off.toNat < 0x280 ∧ 0x184 ≤ off.toNat ∧
    ∀ x ∈ [0x180#10, 0x182#10, 0x188#10, 0x18A#10, 0x18C#10, 0x18E#10, 0x198#10, 0x19A#10, 0x19C#10, 0x19E#10, 0x1A4#10,
      0x1A6#10, 0x1A8#10, 0x1AA#10, 0x1AE#10], off ≠ x := by
  intro off h
  have h' := h
  simp only [isUnknownOffset, Bool.and_eq_true, Bool.or_eq_true, beq_iff_eq, decide_eq_true_eq] at h'
  refine ⟨h'.1, by omega, by omega, ?_⟩
  intro x hx e
  subst e
  simp only [List.mem_cons, List.not_mem_nil, or_false] at hx
  have : off.toNat ∈ [0x180, 0x182, 0x188, 0x18A, 0x18C, 0x18E, 0x198, 0x19A, 0x19C, 0x19E, 0x1A4, 0x1A6, 0x1A8, 0x1AA, 0x1AE] := by
    rcases hx with e | e | e | e | e | e | e | e | e | e | e | e | e | e | e <;> rw [e] <;> decide
  simp only [List.mem_cons, List.not_mem_nil, or_false] at this
  omega

theorem decodeRegRead_unknown {off : Offset} (h : isUnknownOffset off = true) : decodeRegRead off = .ok (.rdUnknown off) := by
  obtain ⟨h1, h2, h3, h4⟩ := isUnknownOffset_cases off h
  simp only [List.forall_mem_cons] at h4
  rw [decodeRegRead, if_neg (by omega), if_neg (by omega), dif_neg (by omega)]
  simp [globalRead, h4]

theorem decodeRegWrite_unknown {off : Offset} (h : isUnknownOffset off = true) (data : Half) (tSync : Nat) :
    decodeRegWrite off data tSync = .ok (.wrUnknown off data) := by
  obtain ⟨h1, h2, h3, h4⟩ := isUnknownOffset_cases off h
  simp only [List.forall_mem_cons] at h4
  rw [decodeRegWrite, if_neg (by omega), if_neg (by omega), dif_neg (by omega)]
  simp [globalWrite, h4]

end Sys2Proof
end

