-- ==== Sys2Proof/Laws/State.lean ====
section
/-! SUPPORT. The small lemmas of State and its updates: one for each field and each named update, and the laws of reading and
writing a voice. -/

namespace Sys2Proof.Machine

@[simp] theorem State.withReply_spucnt (s : State) (r : Reply) : (s.withReply r).spucnt = s.spucnt := rfl
@[simp] theorem State.withReply_irq9Flag (s : State) (r : Reply) : (s.withReply r).irq9Flag = s.irq9Flag := rfl
@[simp] theorem State.withReply_mainVolL (s : State) (r : Reply) : (s.withReply r).mainVolL = s.mainVolL := rfl
@[simp] theorem State.withReply_mainVolR (s : State) (r : Reply) : (s.withReply r).mainVolR = s.mainVolR := rfl
@[simp] theorem State.withReply_kon (s : State) (r : Reply) : (s.withReply r).kon = s.kon := rfl
@[simp] theorem State.withReply_koff (s : State) (r : Reply) : (s.withReply r).koff = s.koff := rfl
@[simp] theorem State.withReply_endx (s : State) (r : Reply) : (s.withReply r).endx = s.endx := rfl
@[simp] theorem State.withReply_eon (s : State) (r : Reply) : (s.withReply r).eon = s.eon := rfl
@[simp] theorem State.withReply_taddr (s : State) (r : Reply) : (s.withReply r).taddr = s.taddr := rfl
@[simp] theorem State.withReply_cursor (s : State) (r : Reply) : (s.withReply r).cursor = s.cursor := rfl
@[simp] theorem State.withReply_irqAddr (s : State) (r : Reply) : (s.withReply r).irqAddr = s.irqAddr := rfl
@[simp] theorem State.withReply_ticksCarry (s : State) (r : Reply) : (s.withReply r).ticksCarry = s.ticksCarry := rfl
@[simp] theorem State.withReply_cdFifo (s : State) (r : Reply) : (s.withReply r).cdFifo = s.cdFifo := rfl
@[simp] theorem State.withReply_dmaRequest (s : State) (r : Reply) : (s.withReply r).dmaRequest = s.dmaRequest := rfl
@[simp] theorem State.withReply_voices (s : State) (r : Reply) : (s.withReply r).voices = s.voices := rfl
@[simp] theorem State.withReply_ram (s : State) (r : Reply) : (s.withReply r).ram = s.ram := rfl
@[simp] theorem State.withReply_frames (s : State) (r : Reply) : (s.withReply r).frames = s.frames := rfl
@[simp] theorem State.withReply_irqEvents (s : State) (r : Reply) : (s.withReply r).irqEvents = s.irqEvents := rfl
@[simp] theorem State.withReply_diags (s : State) (r : Reply) : (s.withReply r).diags = s.diags := rfl
@[simp] theorem State.withReply_draws (s : State) (r : Reply) : (s.withReply r).draws = s.draws := rfl
@[simp] theorem State.withReply_inbox (s : State) (r : Reply) : (s.withReply r).inbox = s.inbox := rfl
@[simp] theorem State.withReply_reply (s : State) (r : Reply) : (s.withReply r).reply = r := rfl

@[simp] theorem State.setVoice_spucnt (s : State) (v : VoiceId) (x : Voice) : (s.setVoice v x).spucnt = s.spucnt := rfl
@[simp] theorem State.setVoice_irq9Flag (s : State) (v : VoiceId) (x : Voice) : (s.setVoice v x).irq9Flag = s.irq9Flag := rfl
@[simp] theorem State.setVoice_mainVolL (s : State) (v : VoiceId) (x : Voice) : (s.setVoice v x).mainVolL = s.mainVolL := rfl
@[simp] theorem State.setVoice_mainVolR (s : State) (v : VoiceId) (x : Voice) : (s.setVoice v x).mainVolR = s.mainVolR := rfl
@[simp] theorem State.setVoice_kon (s : State) (v : VoiceId) (x : Voice) : (s.setVoice v x).kon = s.kon := rfl
@[simp] theorem State.setVoice_koff (s : State) (v : VoiceId) (x : Voice) : (s.setVoice v x).koff = s.koff := rfl
@[simp] theorem State.setVoice_endx (s : State) (v : VoiceId) (x : Voice) : (s.setVoice v x).endx = s.endx := rfl
@[simp] theorem State.setVoice_eon (s : State) (v : VoiceId) (x : Voice) : (s.setVoice v x).eon = s.eon := rfl
@[simp] theorem State.setVoice_taddr (s : State) (v : VoiceId) (x : Voice) : (s.setVoice v x).taddr = s.taddr := rfl
@[simp] theorem State.setVoice_cursor (s : State) (v : VoiceId) (x : Voice) : (s.setVoice v x).cursor = s.cursor := rfl
@[simp] theorem State.setVoice_irqAddr (s : State) (v : VoiceId) (x : Voice) : (s.setVoice v x).irqAddr = s.irqAddr := rfl
@[simp] theorem State.setVoice_ticksCarry (s : State) (v : VoiceId) (x : Voice) :
    (s.setVoice v x).ticksCarry = s.ticksCarry := rfl
@[simp] theorem State.setVoice_cdFifo (s : State) (v : VoiceId) (x : Voice) : (s.setVoice v x).cdFifo = s.cdFifo := rfl
@[simp] theorem State.setVoice_dmaRequest (s : State) (v : VoiceId) (x : Voice) :
    (s.setVoice v x).dmaRequest = s.dmaRequest := rfl
@[simp] theorem State.setVoice_voices (s : State) (v : VoiceId) (x : Voice) : (s.setVoice v x).voices = s.voices.set v x := rfl
@[simp] theorem State.setVoice_ram (s : State) (v : VoiceId) (x : Voice) : (s.setVoice v x).ram = s.ram := rfl
@[simp] theorem State.setVoice_frames (s : State) (v : VoiceId) (x : Voice) : (s.setVoice v x).frames = s.frames := rfl
@[simp] theorem State.setVoice_irqEvents (s : State) (v : VoiceId) (x : Voice) : (s.setVoice v x).irqEvents = s.irqEvents := rfl
@[simp] theorem State.setVoice_diags (s : State) (v : VoiceId) (x : Voice) : (s.setVoice v x).diags = s.diags := rfl
@[simp] theorem State.setVoice_draws (s : State) (v : VoiceId) (x : Voice) : (s.setVoice v x).draws = s.draws := rfl
@[simp] theorem State.setVoice_inbox (s : State) (v : VoiceId) (x : Voice) : (s.setVoice v x).inbox = s.inbox := rfl
@[simp] theorem State.setVoice_reply (s : State) (v : VoiceId) (x : Voice) : (s.setVoice v x).reply = s.reply := rfl

@[simp] theorem State.mapVoice_spucnt (s : State) (v : VoiceId) (f : Voice → Voice) : (s.mapVoice v f).spucnt = s.spucnt := rfl
@[simp] theorem State.mapVoice_irq9Flag (s : State) (v : VoiceId) (f : Voice → Voice) :
    (s.mapVoice v f).irq9Flag = s.irq9Flag := rfl
@[simp] theorem State.mapVoice_mainVolL (s : State) (v : VoiceId) (f : Voice → Voice) :
    (s.mapVoice v f).mainVolL = s.mainVolL := rfl
@[simp] theorem State.mapVoice_mainVolR (s : State) (v : VoiceId) (f : Voice → Voice) :
    (s.mapVoice v f).mainVolR = s.mainVolR := rfl
@[simp] theorem State.mapVoice_kon (s : State) (v : VoiceId) (f : Voice → Voice) : (s.mapVoice v f).kon = s.kon := rfl
@[simp] theorem State.mapVoice_koff (s : State) (v : VoiceId) (f : Voice → Voice) : (s.mapVoice v f).koff = s.koff := rfl
@[simp] theorem State.mapVoice_endx (s : State) (v : VoiceId) (f : Voice → Voice) : (s.mapVoice v f).endx = s.endx := rfl
@[simp] theorem State.mapVoice_eon (s : State) (v : VoiceId) (f : Voice → Voice) : (s.mapVoice v f).eon = s.eon := rfl
@[simp] theorem State.mapVoice_taddr (s : State) (v : VoiceId) (f : Voice → Voice) : (s.mapVoice v f).taddr = s.taddr := rfl
@[simp] theorem State.mapVoice_cursor (s : State) (v : VoiceId) (f : Voice → Voice) : (s.mapVoice v f).cursor = s.cursor := rfl
@[simp] theorem State.mapVoice_irqAddr (s : State) (v : VoiceId) (f : Voice → Voice) : (s.mapVoice v f).irqAddr = s.irqAddr := rfl
@[simp] theorem State.mapVoice_ticksCarry (s : State) (v : VoiceId) (f : Voice → Voice) :
    (s.mapVoice v f).ticksCarry = s.ticksCarry := rfl
@[simp] theorem State.mapVoice_cdFifo (s : State) (v : VoiceId) (f : Voice → Voice) : (s.mapVoice v f).cdFifo = s.cdFifo := rfl
@[simp] theorem State.mapVoice_dmaRequest (s : State) (v : VoiceId) (f : Voice → Voice) :
    (s.mapVoice v f).dmaRequest = s.dmaRequest := rfl
@[simp] theorem State.mapVoice_voices (s : State) (v : VoiceId) (f : Voice → Voice) :
    (s.mapVoice v f).voices = s.voices.set v (f (s.voice v)) := rfl
@[simp] theorem State.mapVoice_ram (s : State) (v : VoiceId) (f : Voice → Voice) : (s.mapVoice v f).ram = s.ram := rfl
@[simp] theorem State.mapVoice_frames (s : State) (v : VoiceId) (f : Voice → Voice) : (s.mapVoice v f).frames = s.frames := rfl
@[simp] theorem State.mapVoice_irqEvents (s : State) (v : VoiceId) (f : Voice → Voice) :
    (s.mapVoice v f).irqEvents = s.irqEvents := rfl
@[simp] theorem State.mapVoice_diags (s : State) (v : VoiceId) (f : Voice → Voice) : (s.mapVoice v f).diags = s.diags := rfl
@[simp] theorem State.mapVoice_draws (s : State) (v : VoiceId) (f : Voice → Voice) : (s.mapVoice v f).draws = s.draws := rfl
@[simp] theorem State.mapVoice_inbox (s : State) (v : VoiceId) (f : Voice → Voice) : (s.mapVoice v f).inbox = s.inbox := rfl
@[simp] theorem State.mapVoice_reply (s : State) (v : VoiceId) (f : Voice → Voice) : (s.mapVoice v f).reply = s.reply := rfl

@[simp] theorem State.emitFrame_spucnt (s : State) (f : Frame) : (s.emitFrame f).spucnt = s.spucnt := rfl
@[simp] theorem State.emitFrame_irq9Flag (s : State) (f : Frame) : (s.emitFrame f).irq9Flag = s.irq9Flag := rfl
@[simp] theorem State.emitFrame_mainVolL (s : State) (f : Frame) : (s.emitFrame f).mainVolL = s.mainVolL := rfl
@[simp] theorem State.emitFrame_mainVolR (s : State) (f : Frame) : (s.emitFrame f).mainVolR = s.mainVolR := rfl
@[simp] theorem State.emitFrame_kon (s : State) (f : Frame) : (s.emitFrame f).kon = s.kon := rfl
@[simp] theorem State.emitFrame_koff (s : State) (f : Frame) : (s.emitFrame f).koff = s.koff := rfl
@[simp] theorem State.emitFrame_endx (s : State) (f : Frame) : (s.emitFrame f).endx = s.endx := rfl
@[simp] theorem State.emitFrame_eon (s : State) (f : Frame) : (s.emitFrame f).eon = s.eon := rfl
@[simp] theorem State.emitFrame_taddr (s : State) (f : Frame) : (s.emitFrame f).taddr = s.taddr := rfl
@[simp] theorem State.emitFrame_cursor (s : State) (f : Frame) : (s.emitFrame f).cursor = s.cursor := rfl
@[simp] theorem State.emitFrame_irqAddr (s : State) (f : Frame) : (s.emitFrame f).irqAddr = s.irqAddr := rfl
@[simp] theorem State.emitFrame_ticksCarry (s : State) (f : Frame) : (s.emitFrame f).ticksCarry = s.ticksCarry := rfl
@[simp] theorem State.emitFrame_cdFifo (s : State) (f : Frame) : (s.emitFrame f).cdFifo = s.cdFifo := rfl
@[simp] theorem State.emitFrame_dmaRequest (s : State) (f : Frame) : (s.emitFrame f).dmaRequest = s.dmaRequest := rfl
@[simp] theorem State.emitFrame_voices (s : State) (f : Frame) : (s.emitFrame f).voices = s.voices := rfl
@[simp] theorem State.emitFrame_ram (s : State) (f : Frame) : (s.emitFrame f).ram = s.ram := rfl
@[simp] theorem State.emitFrame_frames (s : State) (f : Frame) : (s.emitFrame f).frames = s.frames ++ [f] := rfl
@[simp] theorem State.emitFrame_irqEvents (s : State) (f : Frame) : (s.emitFrame f).irqEvents = s.irqEvents := rfl
@[simp] theorem State.emitFrame_diags (s : State) (f : Frame) : (s.emitFrame f).diags = s.diags := rfl
@[simp] theorem State.emitFrame_draws (s : State) (f : Frame) : (s.emitFrame f).draws = s.draws := rfl
@[simp] theorem State.emitFrame_inbox (s : State) (f : Frame) : (s.emitFrame f).inbox = s.inbox := rfl
@[simp] theorem State.emitFrame_reply (s : State) (f : Frame) : (s.emitFrame f).reply = s.reply := rfl

@[simp] theorem State.irqRise_spucnt (s : State) : (s.irqRise).spucnt = s.spucnt := rfl
@[simp] theorem State.irqRise_irq9Flag (s : State) : (s.irqRise).irq9Flag = s.irq9Flag := rfl
@[simp] theorem State.irqRise_mainVolL (s : State) : (s.irqRise).mainVolL = s.mainVolL := rfl
@[simp] theorem State.irqRise_mainVolR (s : State) : (s.irqRise).mainVolR = s.mainVolR := rfl
@[simp] theorem State.irqRise_kon (s : State) : (s.irqRise).kon = s.kon := rfl
@[simp] theorem State.irqRise_koff (s : State) : (s.irqRise).koff = s.koff := rfl
@[simp] theorem State.irqRise_endx (s : State) : (s.irqRise).endx = s.endx := rfl
@[simp] theorem State.irqRise_eon (s : State) : (s.irqRise).eon = s.eon := rfl
@[simp] theorem State.irqRise_taddr (s : State) : (s.irqRise).taddr = s.taddr := rfl
@[simp] theorem State.irqRise_cursor (s : State) : (s.irqRise).cursor = s.cursor := rfl
@[simp] theorem State.irqRise_irqAddr (s : State) : (s.irqRise).irqAddr = s.irqAddr := rfl
@[simp] theorem State.irqRise_ticksCarry (s : State) : (s.irqRise).ticksCarry = s.ticksCarry := rfl
@[simp] theorem State.irqRise_cdFifo (s : State) : (s.irqRise).cdFifo = s.cdFifo := rfl
@[simp] theorem State.irqRise_dmaRequest (s : State) : (s.irqRise).dmaRequest = s.dmaRequest := rfl
@[simp] theorem State.irqRise_voices (s : State) : (s.irqRise).voices = s.voices := rfl
@[simp] theorem State.irqRise_ram (s : State) : (s.irqRise).ram = s.ram := rfl
@[simp] theorem State.irqRise_frames (s : State) : (s.irqRise).frames = s.frames := rfl
@[simp] theorem State.irqRise_irqEvents (s : State) : (s.irqRise).irqEvents = s.irqEvents ++ [.rise] := rfl
@[simp] theorem State.irqRise_diags (s : State) : (s.irqRise).diags = s.diags := rfl
@[simp] theorem State.irqRise_draws (s : State) : (s.irqRise).draws = s.draws := rfl
@[simp] theorem State.irqRise_inbox (s : State) : (s.irqRise).inbox = s.inbox := rfl
@[simp] theorem State.irqRise_reply (s : State) : (s.irqRise).reply = s.reply := rfl

@[simp] theorem State.diag_spucnt (s : State) (c : DiagCode) : (s.diag c).spucnt = s.spucnt := rfl
@[simp] theorem State.diag_irq9Flag (s : State) (c : DiagCode) : (s.diag c).irq9Flag = s.irq9Flag := rfl
@[simp] theorem State.diag_mainVolL (s : State) (c : DiagCode) : (s.diag c).mainVolL = s.mainVolL := rfl
@[simp] theorem State.diag_mainVolR (s : State) (c : DiagCode) : (s.diag c).mainVolR = s.mainVolR := rfl
@[simp] theorem State.diag_kon (s : State) (c : DiagCode) : (s.diag c).kon = s.kon := rfl
@[simp] theorem State.diag_koff (s : State) (c : DiagCode) : (s.diag c).koff = s.koff := rfl
@[simp] theorem State.diag_endx (s : State) (c : DiagCode) : (s.diag c).endx = s.endx := rfl
@[simp] theorem State.diag_eon (s : State) (c : DiagCode) : (s.diag c).eon = s.eon := rfl
@[simp] theorem State.diag_taddr (s : State) (c : DiagCode) : (s.diag c).taddr = s.taddr := rfl
@[simp] theorem State.diag_cursor (s : State) (c : DiagCode) : (s.diag c).cursor = s.cursor := rfl
@[simp] theorem State.diag_irqAddr (s : State) (c : DiagCode) : (s.diag c).irqAddr = s.irqAddr := rfl
@[simp] theorem State.diag_ticksCarry (s : State) (c : DiagCode) : (s.diag c).ticksCarry = s.ticksCarry := rfl
@[simp] theorem State.diag_cdFifo (s : State) (c : DiagCode) : (s.diag c).cdFifo = s.cdFifo := rfl
@[simp] theorem State.diag_dmaRequest (s : State) (c : DiagCode) : (s.diag c).dmaRequest = s.dmaRequest := rfl
@[simp] theorem State.diag_voices (s : State) (c : DiagCode) : (s.diag c).voices = s.voices := rfl
@[simp] theorem State.diag_ram (s : State) (c : DiagCode) : (s.diag c).ram = s.ram := rfl
@[simp] theorem State.diag_frames (s : State) (c : DiagCode) : (s.diag c).frames = s.frames := rfl
@[simp] theorem State.diag_irqEvents (s : State) (c : DiagCode) : (s.diag c).irqEvents = s.irqEvents := rfl
@[simp] theorem State.diag_diags (s : State) (c : DiagCode) : (s.diag c).diags = s.diags ++ [c] := rfl
@[simp] theorem State.diag_draws (s : State) (c : DiagCode) : (s.diag c).draws = s.draws := rfl
@[simp] theorem State.diag_inbox (s : State) (c : DiagCode) : (s.diag c).inbox = s.inbox := rfl
@[simp] theorem State.diag_reply (s : State) (c : DiagCode) : (s.diag c).reply = s.reply := rfl

@[simp] theorem State.updateDmaRequest_spucnt (s : State) : (updateDmaRequest s).spucnt = s.spucnt := rfl
@[simp] theorem State.updateDmaRequest_irq9Flag (s : State) : (updateDmaRequest s).irq9Flag = s.irq9Flag := rfl
@[simp] theorem State.updateDmaRequest_mainVolL (s : State) : (updateDmaRequest s).mainVolL = s.mainVolL := rfl
@[simp] theorem State.updateDmaRequest_mainVolR (s : State) : (updateDmaRequest s).mainVolR = s.mainVolR := rfl
@[simp] theorem State.updateDmaRequest_kon (s : State) : (updateDmaRequest s).kon = s.kon := rfl
@[simp] theorem State.updateDmaRequest_koff (s : State) : (updateDmaRequest s).koff = s.koff := rfl
@[simp] theorem State.updateDmaRequest_endx (s : State) : (updateDmaRequest s).endx = s.endx := rfl
@[simp] theorem State.updateDmaRequest_eon (s : State) : (updateDmaRequest s).eon = s.eon := rfl
@[simp] theorem State.updateDmaRequest_taddr (s : State) : (updateDmaRequest s).taddr = s.taddr := rfl
@[simp] theorem State.updateDmaRequest_cursor (s : State) : (updateDmaRequest s).cursor = s.cursor := rfl
@[simp] theorem State.updateDmaRequest_irqAddr (s : State) : (updateDmaRequest s).irqAddr = s.irqAddr := rfl
@[simp] theorem State.updateDmaRequest_ticksCarry (s : State) : (updateDmaRequest s).ticksCarry = s.ticksCarry := rfl
@[simp] theorem State.updateDmaRequest_cdFifo (s : State) : (updateDmaRequest s).cdFifo = s.cdFifo := rfl
@[simp] theorem State.updateDmaRequest_dmaRequest (s : State) : (updateDmaRequest s).dmaRequest = dmaRequestOf s.spucnt := rfl
@[simp] theorem State.updateDmaRequest_voices (s : State) : (updateDmaRequest s).voices = s.voices := rfl
@[simp] theorem State.updateDmaRequest_ram (s : State) : (updateDmaRequest s).ram = s.ram := rfl
@[simp] theorem State.updateDmaRequest_frames (s : State) : (updateDmaRequest s).frames = s.frames := rfl
@[simp] theorem State.updateDmaRequest_irqEvents (s : State) : (updateDmaRequest s).irqEvents = s.irqEvents := rfl
@[simp] theorem State.updateDmaRequest_diags (s : State) : (updateDmaRequest s).diags = s.diags := rfl
@[simp] theorem State.updateDmaRequest_draws (s : State) : (updateDmaRequest s).draws = s.draws := rfl
@[simp] theorem State.updateDmaRequest_inbox (s : State) : (updateDmaRequest s).inbox = s.inbox := rfl
@[simp] theorem State.updateDmaRequest_reply (s : State) : (updateDmaRequest s).reply = s.reply := rfl

@[simp] theorem State.setEndx_spucnt (s : State) (v : VoiceId) : (setEndx v s).spucnt = s.spucnt := rfl
@[simp] theorem State.setEndx_irq9Flag (s : State) (v : VoiceId) : (setEndx v s).irq9Flag = s.irq9Flag := rfl
@[simp] theorem State.setEndx_mainVolL (s : State) (v : VoiceId) : (setEndx v s).mainVolL = s.mainVolL := rfl
@[simp] theorem State.setEndx_mainVolR (s : State) (v : VoiceId) : (setEndx v s).mainVolR = s.mainVolR := rfl
@[simp] theorem State.setEndx_kon (s : State) (v : VoiceId) : (setEndx v s).kon = s.kon := rfl
@[simp] theorem State.setEndx_koff (s : State) (v : VoiceId) : (setEndx v s).koff = s.koff := rfl
@[simp] theorem State.setEndx_endx (s : State) (v : VoiceId) : (setEndx v s).endx = s.endx ||| voiceBit v := rfl
@[simp] theorem State.setEndx_eon (s : State) (v : VoiceId) : (setEndx v s).eon = s.eon := rfl
@[simp] theorem State.setEndx_taddr (s : State) (v : VoiceId) : (setEndx v s).taddr = s.taddr := rfl
@[simp] theorem State.setEndx_cursor (s : State) (v : VoiceId) : (setEndx v s).cursor = s.cursor := rfl
@[simp] theorem State.setEndx_irqAddr (s : State) (v : VoiceId) : (setEndx v s).irqAddr = s.irqAddr := rfl
@[simp] theorem State.setEndx_ticksCarry (s : State) (v : VoiceId) : (setEndx v s).ticksCarry = s.ticksCarry := rfl
@[simp] theorem State.setEndx_cdFifo (s : State) (v : VoiceId) : (setEndx v s).cdFifo = s.cdFifo := rfl
@[simp] theorem State.setEndx_dmaRequest (s : State) (v : VoiceId) : (setEndx v s).dmaRequest = s.dmaRequest := rfl
@[simp] theorem State.setEndx_voices (s : State) (v : VoiceId) : (setEndx v s).voices = s.voices := rfl
@[simp] theorem State.setEndx_ram (s : State) (v : VoiceId) : (setEndx v s).ram = s.ram := rfl
@[simp] theorem State.setEndx_frames (s : State) (v : VoiceId) : (setEndx v s).frames = s.frames := rfl
@[simp] theorem State.setEndx_irqEvents (s : State) (v : VoiceId) : (setEndx v s).irqEvents = s.irqEvents := rfl
@[simp] theorem State.setEndx_diags (s : State) (v : VoiceId) : (setEndx v s).diags = s.diags := rfl
@[simp] theorem State.setEndx_draws (s : State) (v : VoiceId) : (setEndx v s).draws = s.draws := rfl
@[simp] theorem State.setEndx_inbox (s : State) (v : VoiceId) : (setEndx v s).inbox = s.inbox := rfl
@[simp] theorem State.setEndx_reply (s : State) (v : VoiceId) : (setEndx v s).reply = s.reply := rfl

@[simp] theorem State.clearEndxOnKeyOn_spucnt (s : State) (p : Config.Params) (v : VoiceId) :
    (clearEndxOnKeyOn p v s).spucnt = s.spucnt := rfl
@[simp] theorem State.clearEndxOnKeyOn_irq9Flag (s : State) (p : Config.Params) (v : VoiceId) :
    (clearEndxOnKeyOn p v s).irq9Flag = s.irq9Flag := rfl
@[simp] theorem State.clearEndxOnKeyOn_mainVolL (s : State) (p : Config.Params) (v : VoiceId) :
    (clearEndxOnKeyOn p v s).mainVolL = s.mainVolL := rfl
@[simp] theorem State.clearEndxOnKeyOn_mainVolR (s : State) (p : Config.Params) (v : VoiceId) :
    (clearEndxOnKeyOn p v s).mainVolR = s.mainVolR := rfl
@[simp] theorem State.clearEndxOnKeyOn_kon (s : State) (p : Config.Params) (v : VoiceId) :
    (clearEndxOnKeyOn p v s).kon = s.kon := rfl
@[simp] theorem State.clearEndxOnKeyOn_koff (s : State) (p : Config.Params) (v : VoiceId) :
    (clearEndxOnKeyOn p v s).koff = s.koff := rfl
@[simp] theorem State.clearEndxOnKeyOn_eon (s : State) (p : Config.Params) (v : VoiceId) :
    (clearEndxOnKeyOn p v s).eon = s.eon := rfl
@[simp] theorem State.clearEndxOnKeyOn_taddr (s : State) (p : Config.Params) (v : VoiceId) :
    (clearEndxOnKeyOn p v s).taddr = s.taddr := rfl
@[simp] theorem State.clearEndxOnKeyOn_cursor (s : State) (p : Config.Params) (v : VoiceId) :
    (clearEndxOnKeyOn p v s).cursor = s.cursor := rfl
@[simp] theorem State.clearEndxOnKeyOn_irqAddr (s : State) (p : Config.Params) (v : VoiceId) :
    (clearEndxOnKeyOn p v s).irqAddr = s.irqAddr := rfl
@[simp] theorem State.clearEndxOnKeyOn_ticksCarry (s : State) (p : Config.Params) (v : VoiceId) :
    (clearEndxOnKeyOn p v s).ticksCarry = s.ticksCarry := rfl
@[simp] theorem State.clearEndxOnKeyOn_cdFifo (s : State) (p : Config.Params) (v : VoiceId) :
    (clearEndxOnKeyOn p v s).cdFifo = s.cdFifo := rfl
@[simp] theorem State.clearEndxOnKeyOn_dmaRequest (s : State) (p : Config.Params) (v : VoiceId) :
    (clearEndxOnKeyOn p v s).dmaRequest = s.dmaRequest := rfl
@[simp] theorem State.clearEndxOnKeyOn_voices (s : State) (p : Config.Params) (v : VoiceId) :
    (clearEndxOnKeyOn p v s).voices = s.voices := rfl
@[simp] theorem State.clearEndxOnKeyOn_ram (s : State) (p : Config.Params) (v : VoiceId) :
    (clearEndxOnKeyOn p v s).ram = s.ram := rfl
@[simp] theorem State.clearEndxOnKeyOn_frames (s : State) (p : Config.Params) (v : VoiceId) :
    (clearEndxOnKeyOn p v s).frames = s.frames := rfl
@[simp] theorem State.clearEndxOnKeyOn_irqEvents (s : State) (p : Config.Params) (v : VoiceId) :
    (clearEndxOnKeyOn p v s).irqEvents = s.irqEvents := rfl
@[simp] theorem State.clearEndxOnKeyOn_diags (s : State) (p : Config.Params) (v : VoiceId) :
    (clearEndxOnKeyOn p v s).diags = s.diags := rfl
@[simp] theorem State.clearEndxOnKeyOn_draws (s : State) (p : Config.Params) (v : VoiceId) :
    (clearEndxOnKeyOn p v s).draws = s.draws := rfl
@[simp] theorem State.clearEndxOnKeyOn_inbox (s : State) (p : Config.Params) (v : VoiceId) :
    (clearEndxOnKeyOn p v s).inbox = s.inbox := rfl
@[simp] theorem State.clearEndxOnKeyOn_reply (s : State) (p : Config.Params) (v : VoiceId) :
    (clearEndxOnKeyOn p v s).reply = s.reply := rfl

@[simp] theorem State.pioWrite_spucnt (s : State) (data : Half) : (pioWrite data s).spucnt = s.spucnt := rfl
@[simp] theorem State.pioWrite_irq9Flag (s : State) (data : Half) : (pioWrite data s).irq9Flag = s.irq9Flag := rfl
@[simp] theorem State.pioWrite_mainVolL (s : State) (data : Half) : (pioWrite data s).mainVolL = s.mainVolL := rfl
@[simp] theorem State.pioWrite_mainVolR (s : State) (data : Half) : (pioWrite data s).mainVolR = s.mainVolR := rfl
@[simp] theorem State.pioWrite_kon (s : State) (data : Half) : (pioWrite data s).kon = s.kon := rfl
@[simp] theorem State.pioWrite_koff (s : State) (data : Half) : (pioWrite data s).koff = s.koff := rfl
@[simp] theorem State.pioWrite_endx (s : State) (data : Half) : (pioWrite data s).endx = s.endx := rfl
@[simp] theorem State.pioWrite_eon (s : State) (data : Half) : (pioWrite data s).eon = s.eon := rfl
@[simp] theorem State.pioWrite_taddr (s : State) (data : Half) : (pioWrite data s).taddr = s.taddr := rfl
@[simp] theorem State.pioWrite_cursor (s : State) (data : Half) : (pioWrite data s).cursor = s.cursor + 2 := rfl
@[simp] theorem State.pioWrite_irqAddr (s : State) (data : Half) : (pioWrite data s).irqAddr = s.irqAddr := rfl
@[simp] theorem State.pioWrite_ticksCarry (s : State) (data : Half) : (pioWrite data s).ticksCarry = s.ticksCarry := rfl
@[simp] theorem State.pioWrite_cdFifo (s : State) (data : Half) : (pioWrite data s).cdFifo = s.cdFifo := rfl
@[simp] theorem State.pioWrite_dmaRequest (s : State) (data : Half) : (pioWrite data s).dmaRequest = s.dmaRequest := rfl
@[simp] theorem State.pioWrite_voices (s : State) (data : Half) : (pioWrite data s).voices = s.voices := rfl
@[simp] theorem State.pioWrite_ram (s : State) (data : Half) :
    (pioWrite data s).ram = writeBytes s.ram s.cursor (halfBytes data) := rfl
@[simp] theorem State.pioWrite_frames (s : State) (data : Half) : (pioWrite data s).frames = s.frames := rfl
@[simp] theorem State.pioWrite_irqEvents (s : State) (data : Half) : (pioWrite data s).irqEvents = s.irqEvents := rfl
@[simp] theorem State.pioWrite_diags (s : State) (data : Half) : (pioWrite data s).diags = s.diags := rfl
@[simp] theorem State.pioWrite_draws (s : State) (data : Half) : (pioWrite data s).draws = s.draws := rfl
@[simp] theorem State.pioWrite_inbox (s : State) (data : Half) : (pioWrite data s).inbox = s.inbox := rfl
@[simp] theorem State.pioWrite_reply (s : State) (data : Half) : (pioWrite data s).reply = s.reply := rfl

@[simp] theorem State.dmaWriteWords_spucnt (s : State) (ws : List Word) : (dmaWriteWords ws s).spucnt = s.spucnt := rfl
@[simp] theorem State.dmaWriteWords_irq9Flag (s : State) (ws : List Word) : (dmaWriteWords ws s).irq9Flag = s.irq9Flag := rfl
@[simp] theorem State.dmaWriteWords_mainVolL (s : State) (ws : List Word) : (dmaWriteWords ws s).mainVolL = s.mainVolL := rfl
@[simp] theorem State.dmaWriteWords_mainVolR (s : State) (ws : List Word) : (dmaWriteWords ws s).mainVolR = s.mainVolR := rfl
@[simp] theorem State.dmaWriteWords_kon (s : State) (ws : List Word) : (dmaWriteWords ws s).kon = s.kon := rfl
@[simp] theorem State.dmaWriteWords_koff (s : State) (ws : List Word) : (dmaWriteWords ws s).koff = s.koff := rfl
@[simp] theorem State.dmaWriteWords_endx (s : State) (ws : List Word) : (dmaWriteWords ws s).endx = s.endx := rfl
@[simp] theorem State.dmaWriteWords_eon (s : State) (ws : List Word) : (dmaWriteWords ws s).eon = s.eon := rfl
@[simp] theorem State.dmaWriteWords_taddr (s : State) (ws : List Word) : (dmaWriteWords ws s).taddr = s.taddr := rfl
@[simp] theorem State.dmaWriteWords_cursor (s : State) (ws : List Word) :
    (dmaWriteWords ws s).cursor = advance s.cursor (4 * ws.length) := rfl
@[simp] theorem State.dmaWriteWords_irqAddr (s : State) (ws : List Word) : (dmaWriteWords ws s).irqAddr = s.irqAddr := rfl
@[simp] theorem State.dmaWriteWords_ticksCarry (s : State) (ws : List Word) :
    (dmaWriteWords ws s).ticksCarry = s.ticksCarry := rfl
@[simp] theorem State.dmaWriteWords_cdFifo (s : State) (ws : List Word) : (dmaWriteWords ws s).cdFifo = s.cdFifo := rfl
@[simp] theorem State.dmaWriteWords_dmaRequest (s : State) (ws : List Word) :
    (dmaWriteWords ws s).dmaRequest = s.dmaRequest := rfl
@[simp] theorem State.dmaWriteWords_voices (s : State) (ws : List Word) : (dmaWriteWords ws s).voices = s.voices := rfl
@[simp] theorem State.dmaWriteWords_ram (s : State) (ws : List Word) :
    (dmaWriteWords ws s).ram = writeWords s.ram s.cursor ws := rfl
@[simp] theorem State.dmaWriteWords_frames (s : State) (ws : List Word) : (dmaWriteWords ws s).frames = s.frames := rfl
@[simp] theorem State.dmaWriteWords_irqEvents (s : State) (ws : List Word) : (dmaWriteWords ws s).irqEvents = s.irqEvents := rfl
@[simp] theorem State.dmaWriteWords_diags (s : State) (ws : List Word) : (dmaWriteWords ws s).diags = s.diags := rfl
@[simp] theorem State.dmaWriteWords_draws (s : State) (ws : List Word) : (dmaWriteWords ws s).draws = s.draws := rfl
@[simp] theorem State.dmaWriteWords_inbox (s : State) (ws : List Word) : (dmaWriteWords ws s).inbox = s.inbox := rfl
@[simp] theorem State.dmaWriteWords_reply (s : State) (ws : List Word) : (dmaWriteWords ws s).reply = s.reply := rfl

@[simp] theorem State.dmaReadAdvance_spucnt (s : State) (n : Nat) : (dmaReadAdvance n s).spucnt = s.spucnt := rfl
@[simp] theorem State.dmaReadAdvance_irq9Flag (s : State) (n : Nat) : (dmaReadAdvance n s).irq9Flag = s.irq9Flag := rfl
@[simp] theorem State.dmaReadAdvance_mainVolL (s : State) (n : Nat) : (dmaReadAdvance n s).mainVolL = s.mainVolL := rfl
@[simp] theorem State.dmaReadAdvance_mainVolR (s : State) (n : Nat) : (dmaReadAdvance n s).mainVolR = s.mainVolR := rfl
@[simp] theorem State.dmaReadAdvance_kon (s : State) (n : Nat) : (dmaReadAdvance n s).kon = s.kon := rfl
@[simp] theorem State.dmaReadAdvance_koff (s : State) (n : Nat) : (dmaReadAdvance n s).koff = s.koff := rfl
@[simp] theorem State.dmaReadAdvance_endx (s : State) (n : Nat) : (dmaReadAdvance n s).endx = s.endx := rfl
@[simp] theorem State.dmaReadAdvance_eon (s : State) (n : Nat) : (dmaReadAdvance n s).eon = s.eon := rfl
@[simp] theorem State.dmaReadAdvance_taddr (s : State) (n : Nat) : (dmaReadAdvance n s).taddr = s.taddr := rfl
@[simp] theorem State.dmaReadAdvance_cursor (s : State) (n : Nat) : (dmaReadAdvance n s).cursor = advance s.cursor (4 * n) := rfl
@[simp] theorem State.dmaReadAdvance_irqAddr (s : State) (n : Nat) : (dmaReadAdvance n s).irqAddr = s.irqAddr := rfl
@[simp] theorem State.dmaReadAdvance_ticksCarry (s : State) (n : Nat) : (dmaReadAdvance n s).ticksCarry = s.ticksCarry := rfl
@[simp] theorem State.dmaReadAdvance_cdFifo (s : State) (n : Nat) : (dmaReadAdvance n s).cdFifo = s.cdFifo := rfl
@[simp] theorem State.dmaReadAdvance_dmaRequest (s : State) (n : Nat) : (dmaReadAdvance n s).dmaRequest = s.dmaRequest := rfl
@[simp] theorem State.dmaReadAdvance_voices (s : State) (n : Nat) : (dmaReadAdvance n s).voices = s.voices := rfl
@[simp] theorem State.dmaReadAdvance_ram (s : State) (n : Nat) : (dmaReadAdvance n s).ram = s.ram := rfl
@[simp] theorem State.dmaReadAdvance_frames (s : State) (n : Nat) : (dmaReadAdvance n s).frames = s.frames := rfl
@[simp] theorem State.dmaReadAdvance_irqEvents (s : State) (n : Nat) : (dmaReadAdvance n s).irqEvents = s.irqEvents := rfl
@[simp] theorem State.dmaReadAdvance_diags (s : State) (n : Nat) : (dmaReadAdvance n s).diags = s.diags := rfl
@[simp] theorem State.dmaReadAdvance_draws (s : State) (n : Nat) : (dmaReadAdvance n s).draws = s.draws := rfl
@[simp] theorem State.dmaReadAdvance_inbox (s : State) (n : Nat) : (dmaReadAdvance n s).inbox = s.inbox := rfl
@[simp] theorem State.dmaReadAdvance_reply (s : State) (n : Nat) : (dmaReadAdvance n s).reply = s.reply := rfl

@[simp] theorem State.keyOn_spucnt (s : State) (p : Config.Params) (v : VoiceId) : (keyOn p v s).spucnt = s.spucnt := rfl
@[simp] theorem State.keyOn_irq9Flag (s : State) (p : Config.Params) (v : VoiceId) : (keyOn p v s).irq9Flag = s.irq9Flag := rfl
@[simp] theorem State.keyOn_mainVolL (s : State) (p : Config.Params) (v : VoiceId) : (keyOn p v s).mainVolL = s.mainVolL := rfl
@[simp] theorem State.keyOn_mainVolR (s : State) (p : Config.Params) (v : VoiceId) : (keyOn p v s).mainVolR = s.mainVolR := rfl
@[simp] theorem State.keyOn_kon (s : State) (p : Config.Params) (v : VoiceId) : (keyOn p v s).kon = s.kon := rfl
@[simp] theorem State.keyOn_koff (s : State) (p : Config.Params) (v : VoiceId) : (keyOn p v s).koff = s.koff := rfl
@[simp] theorem State.keyOn_eon (s : State) (p : Config.Params) (v : VoiceId) : (keyOn p v s).eon = s.eon := rfl
@[simp] theorem State.keyOn_taddr (s : State) (p : Config.Params) (v : VoiceId) : (keyOn p v s).taddr = s.taddr := rfl
@[simp] theorem State.keyOn_cursor (s : State) (p : Config.Params) (v : VoiceId) : (keyOn p v s).cursor = s.cursor := rfl
@[simp] theorem State.keyOn_irqAddr (s : State) (p : Config.Params) (v : VoiceId) : (keyOn p v s).irqAddr = s.irqAddr := rfl
@[simp] theorem State.keyOn_ticksCarry (s : State) (p : Config.Params) (v : VoiceId) :
    (keyOn p v s).ticksCarry = s.ticksCarry := rfl
@[simp] theorem State.keyOn_cdFifo (s : State) (p : Config.Params) (v : VoiceId) : (keyOn p v s).cdFifo = s.cdFifo := rfl
@[simp] theorem State.keyOn_dmaRequest (s : State) (p : Config.Params) (v : VoiceId) :
    (keyOn p v s).dmaRequest = s.dmaRequest := rfl
@[simp] theorem State.keyOn_ram (s : State) (p : Config.Params) (v : VoiceId) : (keyOn p v s).ram = s.ram := rfl
@[simp] theorem State.keyOn_frames (s : State) (p : Config.Params) (v : VoiceId) : (keyOn p v s).frames = s.frames := rfl
@[simp] theorem State.keyOn_irqEvents (s : State) (p : Config.Params) (v : VoiceId) : (keyOn p v s).irqEvents = s.irqEvents := rfl
@[simp] theorem State.keyOn_diags (s : State) (p : Config.Params) (v : VoiceId) : (keyOn p v s).diags = s.diags := rfl
@[simp] theorem State.keyOn_draws (s : State) (p : Config.Params) (v : VoiceId) : (keyOn p v s).draws = s.draws := rfl
@[simp] theorem State.keyOn_inbox (s : State) (p : Config.Params) (v : VoiceId) : (keyOn p v s).inbox = s.inbox := rfl
@[simp] theorem State.keyOn_reply (s : State) (p : Config.Params) (v : VoiceId) : (keyOn p v s).reply = s.reply := rfl

@[simp] theorem State.keyOff_spucnt (s : State) (v : VoiceId) : (keyOff v s).spucnt = s.spucnt := rfl
@[simp] theorem State.keyOff_irq9Flag (s : State) (v : VoiceId) : (keyOff v s).irq9Flag = s.irq9Flag := rfl
@[simp] theorem State.keyOff_mainVolL (s : State) (v : VoiceId) : (keyOff v s).mainVolL = s.mainVolL := rfl
@[simp] theorem State.keyOff_mainVolR (s : State) (v : VoiceId) : (keyOff v s).mainVolR = s.mainVolR := rfl
@[simp] theorem State.keyOff_kon (s : State) (v : VoiceId) : (keyOff v s).kon = s.kon := rfl
@[simp] theorem State.keyOff_koff (s : State) (v : VoiceId) : (keyOff v s).koff = s.koff := rfl
@[simp] theorem State.keyOff_endx (s : State) (v : VoiceId) : (keyOff v s).endx = s.endx := rfl
@[simp] theorem State.keyOff_eon (s : State) (v : VoiceId) : (keyOff v s).eon = s.eon := rfl
@[simp] theorem State.keyOff_taddr (s : State) (v : VoiceId) : (keyOff v s).taddr = s.taddr := rfl
@[simp] theorem State.keyOff_cursor (s : State) (v : VoiceId) : (keyOff v s).cursor = s.cursor := rfl
@[simp] theorem State.keyOff_irqAddr (s : State) (v : VoiceId) : (keyOff v s).irqAddr = s.irqAddr := rfl
@[simp] theorem State.keyOff_ticksCarry (s : State) (v : VoiceId) : (keyOff v s).ticksCarry = s.ticksCarry := rfl
@[simp] theorem State.keyOff_cdFifo (s : State) (v : VoiceId) : (keyOff v s).cdFifo = s.cdFifo := rfl
@[simp] theorem State.keyOff_dmaRequest (s : State) (v : VoiceId) : (keyOff v s).dmaRequest = s.dmaRequest := rfl
@[simp] theorem State.keyOff_ram (s : State) (v : VoiceId) : (keyOff v s).ram = s.ram := rfl
@[simp] theorem State.keyOff_frames (s : State) (v : VoiceId) : (keyOff v s).frames = s.frames := rfl
@[simp] theorem State.keyOff_irqEvents (s : State) (v : VoiceId) : (keyOff v s).irqEvents = s.irqEvents := rfl
@[simp] theorem State.keyOff_diags (s : State) (v : VoiceId) : (keyOff v s).diags = s.diags := rfl
@[simp] theorem State.keyOff_draws (s : State) (v : VoiceId) : (keyOff v s).draws = s.draws := rfl
@[simp] theorem State.keyOff_inbox (s : State) (v : VoiceId) : (keyOff v s).inbox = s.inbox := rfl
@[simp] theorem State.keyOff_reply (s : State) (v : VoiceId) : (keyOff v s).reply = s.reply := rfl

@[simp] theorem State.resetBlock_frames (s : State) : (resetBlock s).frames = s.frames := rfl
@[simp] theorem State.resetBlock_irqEvents (s : State) : (resetBlock s).irqEvents = s.irqEvents := rfl
@[simp] theorem State.resetBlock_diags (s : State) : (resetBlock s).diags = s.diags := rfl
@[simp] theorem State.resetBlock_draws (s : State) : (resetBlock s).draws = s.draws := rfl
@[simp] theorem State.resetBlock_inbox (s : State) : (resetBlock s).inbox = s.inbox := rfl
@[simp] theorem State.resetBlock_reply (s : State) : (resetBlock s).reply = .none := rfl

/-! Voices -/

@[simp] theorem State.voice_setVoice_self (s : State) (v : VoiceId) (x : Voice) : (s.setVoice v x).voice v = x := by
  simp [State.voice, State.setVoice]

theorem State.voice_setVoice_ne (s : State) {u v : VoiceId} (x : Voice) (h : u ≠ v) : (s.setVoice v x).voice u = s.voice u := by
  have : v.val ≠ u.val := fun e => h (Fin.ext e.symm)
  simp [State.voice, State.setVoice, this]

theorem State.voice_setVoice (s : State) (u v : VoiceId) (x : Voice) :
    (s.setVoice v x).voice u = if u = v then x else s.voice u := by
  split
  · subst u; simp
  · exact s.voice_setVoice_ne x ‹_›

@[simp] theorem State.voice_mapVoice_self (s : State) (v : VoiceId) (f : Voice → Voice) :
    (s.mapVoice v f).voice v = f (s.voice v) := s.voice_setVoice_self v _

theorem State.voice_mapVoice_ne (s : State) {u v : VoiceId} (f : Voice → Voice) (h : u ≠ v) :
    (s.mapVoice v f).voice u = s.voice u := s.voice_setVoice_ne _ h

theorem State.voice_mapVoice (s : State) (u v : VoiceId) (f : Voice → Voice) :
    (s.mapVoice v f).voice u = if u = v then f (s.voice v) else s.voice u := s.voice_setVoice u v _

/-- The voices of two states agree when each voice does. -/
theorem State.voices_ext {s t : State} (h : ∀ v, s.voice v = t.voice v) : s.voices = t.voices :=
  Vector.ext fun i hi => h ⟨i, hi⟩

@[simp] theorem State.reset_voice (v : VoiceId) : State.reset.voice v = Voice.reset := by
  simp [State.voice, State.reset]

@[simp] theorem State.voice_withReply (s : State) (r : Reply) (v : VoiceId) : (s.withReply r).voice v = s.voice v := rfl
@[simp] theorem State.voice_emitFrame (s : State) (f : Frame) (v : VoiceId) : (s.emitFrame f).voice v = s.voice v := rfl
@[simp] theorem State.voice_irqRise (s : State) (v : VoiceId) : (s.irqRise).voice v = s.voice v := rfl
@[simp] theorem State.voice_diag (s : State) (c : DiagCode) (v : VoiceId) : (s.diag c).voice v = s.voice v := rfl
@[simp] theorem State.voice_setEndx (s : State) (w : VoiceId) (v : VoiceId) : (setEndx w s).voice v = s.voice v := rfl
@[simp] theorem State.voice_clearEndxOnKeyOn (s : State) (p : Config.Params) (w : VoiceId) (v : VoiceId) :
    (clearEndxOnKeyOn p w s).voice v = s.voice v := rfl
@[simp] theorem State.voice_updateDmaRequest (s : State) (v : VoiceId) : (updateDmaRequest s).voice v = s.voice v := rfl

theorem State.voice_keyOn (s : State) (p : Config.Params) (u v : VoiceId) :
    (keyOn p v s).voice u = if u = v then (s.voice v).keyOn else s.voice u :=
  (clearEndxOnKeyOn p v s).voice_mapVoice u v _

theorem State.voice_keyOff (s : State) (u v : VoiceId) :
    (keyOff v s).voice u = if u = v then (s.voice v).keyOff else s.voice u := s.voice_mapVoice u v _

/-! Voice updates -/

@[simp] theorem Voice.enterPhase_volumeLeft (v : Voice) (p : Phase) : (v.enterPhase p).volumeLeft = v.volumeLeft := rfl
@[simp] theorem Voice.enterPhase_volumeRight (v : Voice) (p : Phase) : (v.enterPhase p).volumeRight = v.volumeRight := rfl
@[simp] theorem Voice.enterPhase_sampleRate (v : Voice) (p : Phase) : (v.enterPhase p).sampleRate = v.sampleRate := rfl
@[simp] theorem Voice.enterPhase_startAddress (v : Voice) (p : Phase) : (v.enterPhase p).startAddress = v.startAddress := rfl
@[simp] theorem Voice.enterPhase_adsrLow (v : Voice) (p : Phase) : (v.enterPhase p).adsrLow = v.adsrLow := rfl
@[simp] theorem Voice.enterPhase_adsrHigh (v : Voice) (p : Phase) : (v.enterPhase p).adsrHigh = v.adsrHigh := rfl
@[simp] theorem Voice.enterPhase_adsrVolume (v : Voice) (p : Phase) : (v.enterPhase p).adsrVolume = v.adsrVolume := rfl
@[simp] theorem Voice.enterPhase_repeatAddress (v : Voice) (p : Phase) : (v.enterPhase p).repeatAddress = v.repeatAddress := rfl
@[simp] theorem Voice.enterPhase_currentAddress (v : Voice) (p : Phase) :
    (v.enterPhase p).currentAddress = v.currentAddress := rfl
@[simp] theorem Voice.enterPhase_counter (v : Voice) (p : Phase) : (v.enterPhase p).counter = v.counter := rfl
@[simp] theorem Voice.enterPhase_blockSamples (v : Voice) (p : Phase) : (v.enterPhase p).blockSamples = v.blockSamples := rfl
@[simp] theorem Voice.enterPhase_prevSamples (v : Voice) (p : Phase) : (v.enterPhase p).prevSamples = v.prevSamples := rfl
@[simp] theorem Voice.enterPhase_last0 (v : Voice) (p : Phase) : (v.enterPhase p).last0 = v.last0 := rfl
@[simp] theorem Voice.enterPhase_last1 (v : Voice) (p : Phase) : (v.enterPhase p).last1 = v.last1 := rfl
@[simp] theorem Voice.enterPhase_blockFlags (v : Voice) (p : Phase) : (v.enterPhase p).blockFlags = v.blockFlags := rfl
@[simp] theorem Voice.enterPhase_hasSamples (v : Voice) (p : Phase) : (v.enterPhase p).hasSamples = v.hasSamples := rfl
@[simp] theorem Voice.enterPhase_phase (v : Voice) (p : Phase) : (v.enterPhase p).phase = p := rfl
@[simp] theorem Voice.enterPhase_target (v : Voice) (p : Phase) :
    (v.enterPhase p).target = phaseTarget p v.adsrLow v.adsrHigh := rfl
@[simp] theorem Voice.enterPhase_adsrTicks (v : Voice) (p : Phase) :
    (v.enterPhase p).adsrTicks = phaseTicks (phaseTarget p v.adsrLow v.adsrHigh) := rfl
@[simp] theorem Voice.enterPhase_adsrTicksRemaining (v : Voice) (p : Phase) :
    (v.enterPhase p).adsrTicksRemaining = phaseTicks (phaseTarget p v.adsrLow v.adsrHigh) := rfl
@[simp] theorem Voice.enterPhase_adsrStep (v : Voice) (p : Phase) :
    (v.enterPhase p).adsrStep = phaseStep (phaseTarget p v.adsrLow v.adsrHigh) := rfl

@[simp] theorem Voice.keyOn_volumeLeft (v : Voice) : (v.keyOn).volumeLeft = v.volumeLeft := rfl
@[simp] theorem Voice.keyOn_volumeRight (v : Voice) : (v.keyOn).volumeRight = v.volumeRight := rfl
@[simp] theorem Voice.keyOn_sampleRate (v : Voice) : (v.keyOn).sampleRate = v.sampleRate := rfl
@[simp] theorem Voice.keyOn_startAddress (v : Voice) : (v.keyOn).startAddress = v.startAddress := rfl
@[simp] theorem Voice.keyOn_adsrLow (v : Voice) : (v.keyOn).adsrLow = v.adsrLow := rfl
@[simp] theorem Voice.keyOn_adsrHigh (v : Voice) : (v.keyOn).adsrHigh = v.adsrHigh := rfl
@[simp] theorem Voice.keyOn_adsrVolume (v : Voice) : (v.keyOn).adsrVolume = 0 := rfl
@[simp] theorem Voice.keyOn_repeatAddress (v : Voice) : (v.keyOn).repeatAddress = v.repeatAddress := rfl
@[simp] theorem Voice.keyOn_currentAddress (v : Voice) : (v.keyOn).currentAddress = v.startAddress := rfl
@[simp] theorem Voice.keyOn_counter (v : Voice) : (v.keyOn).counter = v.counter := rfl
@[simp] theorem Voice.keyOn_blockSamples (v : Voice) : (v.keyOn).blockSamples = v.blockSamples := rfl
@[simp] theorem Voice.keyOn_prevSamples (v : Voice) : (v.keyOn).prevSamples = v.prevSamples := rfl
@[simp] theorem Voice.keyOn_last0 (v : Voice) : (v.keyOn).last0 = v.last0 := rfl
@[simp] theorem Voice.keyOn_last1 (v : Voice) : (v.keyOn).last1 = v.last1 := rfl
@[simp] theorem Voice.keyOn_blockFlags (v : Voice) : (v.keyOn).blockFlags = v.blockFlags := rfl
@[simp] theorem Voice.keyOn_hasSamples (v : Voice) : (v.keyOn).hasSamples = false := rfl
@[simp] theorem Voice.keyOn_phase (v : Voice) : (v.keyOn).phase = .attack := rfl
@[simp] theorem Voice.keyOn_target (v : Voice) : (v.keyOn).target = phaseTarget .attack v.adsrLow v.adsrHigh := rfl
@[simp] theorem Voice.keyOn_adsrTicks (v : Voice) :
    (v.keyOn).adsrTicks = phaseTicks (phaseTarget .attack v.adsrLow v.adsrHigh) := rfl
@[simp] theorem Voice.keyOn_adsrTicksRemaining (v : Voice) :
    (v.keyOn).adsrTicksRemaining = phaseTicks (phaseTarget .attack v.adsrLow v.adsrHigh) := rfl
@[simp] theorem Voice.keyOn_adsrStep (v : Voice) :
    (v.keyOn).adsrStep = phaseStep (phaseTarget .attack v.adsrLow v.adsrHigh) := rfl

@[simp] theorem Voice.pitchStep_volumeLeft (v : Voice) : (v.pitchStep).volumeLeft = v.volumeLeft := rfl
@[simp] theorem Voice.pitchStep_volumeRight (v : Voice) : (v.pitchStep).volumeRight = v.volumeRight := rfl
@[simp] theorem Voice.pitchStep_sampleRate (v : Voice) : (v.pitchStep).sampleRate = v.sampleRate := rfl
@[simp] theorem Voice.pitchStep_startAddress (v : Voice) : (v.pitchStep).startAddress = v.startAddress := rfl
@[simp] theorem Voice.pitchStep_adsrLow (v : Voice) : (v.pitchStep).adsrLow = v.adsrLow := rfl
@[simp] theorem Voice.pitchStep_adsrHigh (v : Voice) : (v.pitchStep).adsrHigh = v.adsrHigh := rfl
@[simp] theorem Voice.pitchStep_adsrVolume (v : Voice) : (v.pitchStep).adsrVolume = v.adsrVolume := rfl
@[simp] theorem Voice.pitchStep_repeatAddress (v : Voice) : (v.pitchStep).repeatAddress = v.repeatAddress := rfl
@[simp] theorem Voice.pitchStep_currentAddress (v : Voice) : (v.pitchStep).currentAddress = v.currentAddress := rfl
@[simp] theorem Voice.pitchStep_counter (v : Voice) :
    (v.pitchStep).counter = v.counter + BitVec.ofNat 32 (min v.sampleRate.toNat Config.pitchMax) := rfl
@[simp] theorem Voice.pitchStep_blockSamples (v : Voice) : (v.pitchStep).blockSamples = v.blockSamples := rfl
@[simp] theorem Voice.pitchStep_prevSamples (v : Voice) : (v.pitchStep).prevSamples = v.prevSamples := rfl
@[simp] theorem Voice.pitchStep_last0 (v : Voice) : (v.pitchStep).last0 = v.last0 := rfl
@[simp] theorem Voice.pitchStep_last1 (v : Voice) : (v.pitchStep).last1 = v.last1 := rfl
@[simp] theorem Voice.pitchStep_blockFlags (v : Voice) : (v.pitchStep).blockFlags = v.blockFlags := rfl
@[simp] theorem Voice.pitchStep_hasSamples (v : Voice) : (v.pitchStep).hasSamples = v.hasSamples := rfl
@[simp] theorem Voice.pitchStep_phase (v : Voice) : (v.pitchStep).phase = v.phase := rfl
@[simp] theorem Voice.pitchStep_target (v : Voice) : (v.pitchStep).target = v.target := rfl
@[simp] theorem Voice.pitchStep_adsrTicks (v : Voice) : (v.pitchStep).adsrTicks = v.adsrTicks := rfl
@[simp] theorem Voice.pitchStep_adsrTicksRemaining (v : Voice) : (v.pitchStep).adsrTicksRemaining = v.adsrTicksRemaining := rfl
@[simp] theorem Voice.pitchStep_adsrStep (v : Voice) : (v.pitchStep).adsrStep = v.adsrStep := rfl

@[simp] theorem Voice.leaveBlock_volumeLeft (v : Voice) : (v.leaveBlock).volumeLeft = v.volumeLeft := rfl
@[simp] theorem Voice.leaveBlock_volumeRight (v : Voice) : (v.leaveBlock).volumeRight = v.volumeRight := rfl
@[simp] theorem Voice.leaveBlock_sampleRate (v : Voice) : (v.leaveBlock).sampleRate = v.sampleRate := rfl
@[simp] theorem Voice.leaveBlock_startAddress (v : Voice) : (v.leaveBlock).startAddress = v.startAddress := rfl
@[simp] theorem Voice.leaveBlock_adsrLow (v : Voice) : (v.leaveBlock).adsrLow = v.adsrLow := rfl
@[simp] theorem Voice.leaveBlock_adsrHigh (v : Voice) : (v.leaveBlock).adsrHigh = v.adsrHigh := rfl
@[simp] theorem Voice.leaveBlock_adsrVolume (v : Voice) : (v.leaveBlock).adsrVolume = v.adsrVolume := rfl
@[simp] theorem Voice.leaveBlock_repeatAddress (v : Voice) : (v.leaveBlock).repeatAddress = v.repeatAddress := rfl
@[simp] theorem Voice.leaveBlock_currentAddress (v : Voice) : (v.leaveBlock).currentAddress = v.currentAddress := rfl
@[simp] theorem Voice.leaveBlock_counter (v : Voice) : (v.leaveBlock).counter = v.counter - 0x1C000#32 := rfl
@[simp] theorem Voice.leaveBlock_blockSamples (v : Voice) : (v.leaveBlock).blockSamples = v.blockSamples := rfl
@[simp] theorem Voice.leaveBlock_prevSamples (v : Voice) : (v.leaveBlock).prevSamples = v.prevSamples := rfl
@[simp] theorem Voice.leaveBlock_last0 (v : Voice) : (v.leaveBlock).last0 = v.last0 := rfl
@[simp] theorem Voice.leaveBlock_last1 (v : Voice) : (v.leaveBlock).last1 = v.last1 := rfl
@[simp] theorem Voice.leaveBlock_blockFlags (v : Voice) : (v.leaveBlock).blockFlags = v.blockFlags := rfl
@[simp] theorem Voice.leaveBlock_hasSamples (v : Voice) : (v.leaveBlock).hasSamples = false := rfl
@[simp] theorem Voice.leaveBlock_phase (v : Voice) : (v.leaveBlock).phase = v.phase := rfl
@[simp] theorem Voice.leaveBlock_target (v : Voice) : (v.leaveBlock).target = v.target := rfl
@[simp] theorem Voice.leaveBlock_adsrTicks (v : Voice) : (v.leaveBlock).adsrTicks = v.adsrTicks := rfl
@[simp] theorem Voice.leaveBlock_adsrTicksRemaining (v : Voice) : (v.leaveBlock).adsrTicksRemaining = v.adsrTicksRemaining := rfl
@[simp] theorem Voice.leaveBlock_adsrStep (v : Voice) : (v.leaveBlock).adsrStep = v.adsrStep := rfl

@[simp] theorem Voice.decodeBlock_volumeLeft (v : Voice) (blk : Block) : (v.decodeBlock blk).volumeLeft = v.volumeLeft := by simp only [Voice.decodeBlock]
@[simp] theorem Voice.decodeBlock_volumeRight (v : Voice) (blk : Block) : (v.decodeBlock blk).volumeRight = v.volumeRight := by simp only [Voice.decodeBlock]
@[simp] theorem Voice.decodeBlock_sampleRate (v : Voice) (blk : Block) : (v.decodeBlock blk).sampleRate = v.sampleRate := by simp only [Voice.decodeBlock]
@[simp] theorem Voice.decodeBlock_startAddress (v : Voice) (blk : Block) :
    (v.decodeBlock blk).startAddress = v.startAddress := by simp only [Voice.decodeBlock]
@[simp] theorem Voice.decodeBlock_adsrLow (v : Voice) (blk : Block) : (v.decodeBlock blk).adsrLow = v.adsrLow := by simp only [Voice.decodeBlock]
@[simp] theorem Voice.decodeBlock_adsrHigh (v : Voice) (blk : Block) : (v.decodeBlock blk).adsrHigh = v.adsrHigh := by simp only [Voice.decodeBlock]
@[simp] theorem Voice.decodeBlock_adsrVolume (v : Voice) (blk : Block) : (v.decodeBlock blk).adsrVolume = v.adsrVolume := by simp only [Voice.decodeBlock]
@[simp] theorem Voice.decodeBlock_repeatAddress (v : Voice) (blk : Block) :
    (v.decodeBlock blk).repeatAddress = v.repeatAddress := by simp only [Voice.decodeBlock]
@[simp] theorem Voice.decodeBlock_currentAddress (v : Voice) (blk : Block) :
    (v.decodeBlock blk).currentAddress = v.currentAddress := by simp only [Voice.decodeBlock]
@[simp] theorem Voice.decodeBlock_counter (v : Voice) (blk : Block) : (v.decodeBlock blk).counter = v.counter := by simp only [Voice.decodeBlock]
@[simp] theorem Voice.decodeBlock_blockSamples (v : Voice) (blk : Block) :
    (v.decodeBlock blk).blockSamples = (decodeSamples blk { samples := v.blockSamples, last0 := v.last0, last1 := v.last1 }).samples := by simp only [Voice.decodeBlock]
@[simp] theorem Voice.decodeBlock_prevSamples (v : Voice) (blk : Block) :
    (v.decodeBlock blk).prevSamples = #v[v.blockSamples[25], v.blockSamples[26], v.blockSamples[27]] := by simp only [Voice.decodeBlock]
@[simp] theorem Voice.decodeBlock_last0 (v : Voice) (blk : Block) :
    (v.decodeBlock blk).last0 = (decodeSamples blk { samples := v.blockSamples, last0 := v.last0, last1 := v.last1 }).last0 := by simp only [Voice.decodeBlock]
@[simp] theorem Voice.decodeBlock_last1 (v : Voice) (blk : Block) :
    (v.decodeBlock blk).last1 = (decodeSamples blk { samples := v.blockSamples, last0 := v.last0, last1 := v.last1 }).last1 := by simp only [Voice.decodeBlock]
@[simp] theorem Voice.decodeBlock_blockFlags (v : Voice) (blk : Block) : (v.decodeBlock blk).blockFlags = blockFlagsOf blk := by simp only [Voice.decodeBlock]
@[simp] theorem Voice.decodeBlock_hasSamples (v : Voice) (blk : Block) : (v.decodeBlock blk).hasSamples = v.hasSamples := by simp only [Voice.decodeBlock]
@[simp] theorem Voice.decodeBlock_phase (v : Voice) (blk : Block) : (v.decodeBlock blk).phase = v.phase := by simp only [Voice.decodeBlock]
@[simp] theorem Voice.decodeBlock_target (v : Voice) (blk : Block) : (v.decodeBlock blk).target = v.target := by simp only [Voice.decodeBlock]
@[simp] theorem Voice.decodeBlock_adsrTicks (v : Voice) (blk : Block) : (v.decodeBlock blk).adsrTicks = v.adsrTicks := by simp only [Voice.decodeBlock]
@[simp] theorem Voice.decodeBlock_adsrTicksRemaining (v : Voice) (blk : Block) :
    (v.decodeBlock blk).adsrTicksRemaining = v.adsrTicksRemaining := by simp only [Voice.decodeBlock]
@[simp] theorem Voice.decodeBlock_adsrStep (v : Voice) (blk : Block) : (v.decodeBlock blk).adsrStep = v.adsrStep := by simp only [Voice.decodeBlock]

end Sys2Proof.Machine
end

