-- ==== Sys2Proof/Laws/Keys.lean ====
section
/-! SUPPORT. The writes of KON and KOFF: which voices a half names, and what an action on each named voice does to the state. -/

namespace Sys2Proof.Machine

/-- A low-half write names voices 0 to 15 (R65, R95). -/
theorem lowMask_getLsbD (d : Half) (b : Nat) : (lowMask d).getLsbD b = (decide (b < 16) && d.getLsbD b) := by
  rw [lowMask]
  erw [BitVec.getLsbD_append]
  by_cases h : b < 16 <;> simp [h]

/-- A high-half write names voice `16 + b` by bit `b` (R65, R97). -/
theorem highMask_getLsbD (d : Half) (b : Nat) : (highMask d).getLsbD b = (decide (16 ≤ b) && d.getLsbD (b - 16)) := by
  rw [highMask]
  erw [BitVec.getLsbD_append]
  by_cases h : b < 16 
  · simp [h]
  · simp [h]; intro _; omega

/-- The ENDX clear of KeyOn touches at most its own voice's bit (R20, R128). -/
theorem clearEndx_getLsbD (p : Config.Params) (v : VoiceId) (s : State) (b : Nat) :
    (clearEndxOnKeyOn p v s).endx.getLsbD b = (s.endx.getLsbD b && !(p.endxClearOnKeyOn && decide (b = v.val))) := by
  have hv := v.isLt
  have hs : (1#32 <<< v.val).getLsbD b = decide (b = v.val) := by
    rw [BitVec.getLsbD_shiftLeft, BitVec.getLsbD_one]
    by_cases h : b = v.val
    · subst h; simp; omega
    · simp only [h, decide_false]; by_cases h2 : b < v.val <;> simp [h2]; omega
  have hlt : s.endx.getLsbD b = true → b < 32 := fun h => BitVec.lt_of_getLsbD h
  simp only [clearEndxOnKeyOn, voiceBit]
  split
  · rename_i hc
    rw [Bool.and_eq_true] at hc
    rw [BitVec.getLsbD_and, BitVec.getLsbD_not, hs, hc.2]
    cases hb : s.endx.getLsbD b
    · simp
    · simp [hlt hb]
  · rename_i hc
    cases hp : p.endxClearOnKeyOn
    · simp
    · have : s.endx.getLsbD v.val = false := by simpa [hp] using hc
      by_cases h : b = v.val
      · subst h; simp [this]
      · simp [h]

/-- What an action on each named voice leaves in a voice, when the action changes its own voice only (R95, R99). -/
theorem forVoices_voice {act : VoiceId → State → State} {f : Voice → Voice}
    (h : ∀ v u s, (act v s).voice u = if u = v then f (s.voice u) else s.voice u) (m : Word) (s : State) (u : VoiceId) :
    (forVoices act m s).voice u = if m.getLsbD u.val = true then f (s.voice u) else s.voice u := by
  have key : ∀ (vs : List VoiceId), vs.Nodup → ∀ s : State,
      (vs.foldl (fun s v => if m.getLsbD v.val then act v s else s) s).voice u =
        if u ∈ vs ∧ m.getLsbD u.val = true then f (s.voice u) else s.voice u := by
    intro vs
    induction vs with
    | nil => simp
    | cons v vs ih =>
      intro nd s
      rw [List.nodup_cons] at nd
      rw [List.foldl_cons, ih nd.2]
      by_cases huv : u = v
      · subst huv
        by_cases hm : m.getLsbD u.val = true
        · simp only [nd.1, hm, false_and, if_false, if_true, List.mem_cons, true_or, and_self, h]
        · simp only [nd.1, hm, false_and, if_false]; simp
      · have : (if m.getLsbD v.val = true then act v s else s).voice u = s.voice u := by
          split
          · rw [h, if_neg huv]
          · rfl
        simp only [this, List.mem_cons, huv, false_or]
  have := key allVoices (List.nodup_finRange 24) s
  rw [forVoices, this]
  simp [allVoices]

/-- A property that the action on each named voice keeps holds after the write. -/
theorem forVoices_induction {act : VoiceId → State → State} (P : State → Prop) (m : Word) (s : State) (h0 : P s)
    (hs : ∀ v u, m.getLsbD v.val = true → P u → P (act v u)) : P (forVoices act m s) := by
  have key : ∀ (vs : List VoiceId) (s : State), P s → P (vs.foldl (fun s v => if m.getLsbD v.val then act v s else s) s) := by
    intro vs
    induction vs with
    | nil => exact fun _ h => h
    | cons v vs ih =>
      intro s h
      refine ih _ ?_
      dsimp only
      split
      · exact hs v s ‹_› h
      · exact h
  exact key _ s h0

/-- ENDX after KeyOn of the named voices (R20, R128). -/
theorem forVoices_keyOn_endx (p : Config.Params) (m : Word) (s : State) (b : Nat) :
    (forVoices (keyOn p) m s).endx.getLsbD b =
      (s.endx.getLsbD b && !(p.endxClearOnKeyOn && decide (b < 24) && m.getLsbD b)) := by
  have key : ∀ (vs : List VoiceId) (s : State),
      (vs.foldl (fun s v => if m.getLsbD v.val then keyOn p v s else s) s).endx.getLsbD b =
        (s.endx.getLsbD b && !(p.endxClearOnKeyOn && decide (∃ v ∈ vs, b = v.val) && m.getLsbD b)) := by
    intro vs
    induction vs with
    | nil => simp
    | cons v vs ih =>
      intro s
      rw [List.foldl_cons, ih]
      have e : (keyOn p v s).endx.getLsbD b = (s.endx.getLsbD b && !(p.endxClearOnKeyOn && decide (b = v.val))) :=
        clearEndx_getLsbD p v s b
      by_cases hb : b = v.val
      · have : ∃ w ∈ v :: vs, b = w.val := ⟨v, by simp, hb⟩
        simp only [this, decide_true, Bool.and_true]
        by_cases hm : m.getLsbD v.val = true
        · rw [if_pos hm, e, hb, hm]; cases s.endx.getLsbD v.val <;> cases p.endxClearOnKeyOn <;> simp
        · rw [if_neg hm, hb, Bool.eq_false_iff.mpr hm]; simp
      · have e1 : (∃ w ∈ v :: vs, b = w.val) ↔ ∃ w ∈ vs, b = w.val := by
          simp only [List.mem_cons, exists_eq_or_imp, hb, false_or]
        have e2 : (if m.getLsbD v.val = true then keyOn p v s else s).endx.getLsbD b = s.endx.getLsbD b := by
          split
          · rw [e]; simp [hb]
          · rfl
        rw [e2]; simp only [e1]
  rw [forVoices, key]
  have : (∃ v ∈ allVoices, b = v.val) ↔ b < 24 := by
    refine ⟨fun ⟨v, _, h⟩ => h ▸ v.isLt, fun h => ⟨⟨b, h⟩, List.mem_finRange _, rfl⟩⟩
  simp only [this]

end Sys2Proof.Machine
end

