-- ==== Sys2Proof/Laws/Sampling.lean ====
section
/-! SUPPORT. What the sample path may write: one lemma for each of its operations, up to Execute. -/

namespace Sys2Proof.Machine

theorem OnlySampling.refl (s : State) : OnlySampling s s := rfl

theorem OnlySampling.trans {s t u : State} (h : OnlySampling s t) (k : OnlySampling t u) : OnlySampling s u := by
  cases s; cases t; cases u
  simp only [OnlySampling, State.mk.injEq] at *
  simp_all

/-- The fields that no sample changes. -/
theorem OnlySampling.fields {s t : State} (h : OnlySampling s t) :
    t.spucnt = s.spucnt ∧ t.mainVolL = s.mainVolL ∧ t.mainVolR = s.mainVolR ∧ t.kon = s.kon ∧ t.koff = s.koff ∧
      t.eon = s.eon ∧ t.taddr = s.taddr ∧ t.cursor = s.cursor ∧ t.irqAddr = s.irqAddr ∧ t.dmaRequest = s.dmaRequest ∧
      t.ram = s.ram ∧ t.diags = s.diags ∧ t.inbox = s.inbox ∧ t.reply = s.reply := by
  rw [OnlySampling] at h
  rw [h]
  simp

theorem onlySampling_mapVoice (s : State) (v : VoiceId) (f : Voice → Voice) : OnlySampling s (s.mapVoice v f) := rfl

theorem onlySampling_setEndx (s : State) (v : VoiceId) : OnlySampling s (setEndx v s) := rfl

theorem onlySampling_keyOff (s : State) (v : VoiceId) : OnlySampling s (keyOff v s) := rfl

theorem onlySampling_emitFrame (s : State) (f : Frame) : OnlySampling s (s.emitFrame f) := rfl

/-- IrqCheck: nothing, or the flag raised and one event recorded (R165). -/
theorem irqCheck_cases (a : Half) (s : State) :
    irqCheck a s = s ∨ (s.irq9Flag = false ∧ s.irq9Enable = true ∧ irqMatches s.irqAddr a = true ∧
      irqCheck a s = { s.irqRise with irq9Flag := true }) := by
  unfold irqCheck
  split
  · rename_i h
    rw [Bool.and_eq_true] at h
    split
    · exact .inl rfl
    · rename_i hf
      exact .inr ⟨by simpa using hf, h.1, h.2, rfl⟩
  · exact .inl rfl

theorem onlySampling_irqCheck (a : Half) (s : State) : OnlySampling s (irqCheck a s) := by
  rcases irqCheck_cases a s with h | ⟨-, -, -, h⟩ <;> rw [h] <;> rfl

@[simp] theorem irqCheck_voices (a : Half) (s : State) : (irqCheck a s).voices = s.voices := by
  rcases irqCheck_cases a s with h | ⟨-, -, -, h⟩ <;> simp [h]

@[simp] theorem irqCheck_voice (a : Half) (s : State) (v : VoiceId) : (irqCheck a s).voice v = s.voice v := by
  simp [State.voice]

@[simp] theorem irqCheck_endx (a : Half) (s : State) : (irqCheck a s).endx = s.endx := by
  rcases irqCheck_cases a s with h | ⟨-, -, -, h⟩ <;> simp [h]

@[simp] theorem irqCheck_frames (a : Half) (s : State) : (irqCheck a s).frames = s.frames := by
  rcases irqCheck_cases a s with h | ⟨-, -, -, h⟩ <;> simp [h]

@[simp] theorem irqCheck_cdFifo (a : Half) (s : State) : (irqCheck a s).cdFifo = s.cdFifo := by
  rcases irqCheck_cases a s with h | ⟨-, -, -, h⟩ <;> simp [h]

@[simp] theorem irqCheck_ticksCarry (a : Half) (s : State) : (irqCheck a s).ticksCarry = s.ticksCarry := by
  rcases irqCheck_cases a s with h | ⟨-, -, -, h⟩ <;> simp [h]

@[simp] theorem irqCheck_draws (a : Half) (s : State) : (irqCheck a s).draws = s.draws := by
  rcases irqCheck_cases a s with h | ⟨-, -, -, h⟩ <;> simp [h]

/-- Step 2: nothing, or the IRQ check and the voice with the block at its address (R150). -/
theorem fetchStep_cases (i : VoiceId) (s : State) :
    ((s.voice i).hasSamples = true ∧ fetchStep i s = s) ∨
      ((s.voice i).hasSamples = false ∧ fetchStep i s =
        (irqCheck (s.voice i).currentAddress s).mapVoice i (fun v => v.takeBlock (blockAt s.ram v.currentAddress))) := by
  unfold fetchStep
  split
  · exact .inl ⟨‹_›, rfl⟩
  · rename_i h
    exact .inr ⟨by simpa using h, rfl⟩

theorem onlySampling_fetchStep (i : VoiceId) (s : State) : OnlySampling s (fetchStep i s) := by
  rcases fetchStep_cases i s with ⟨-, h⟩ | ⟨-, h⟩ <;> rw [h]
  · exact .refl s
  · exact (onlySampling_irqCheck _ s).trans (onlySampling_mapVoice _ _ _)

theorem fetchStep_voice_ne {i u : VoiceId} (s : State) (h : u ≠ i) : (fetchStep i s).voice u = s.voice u := by
  rcases fetchStep_cases i s with ⟨-, e⟩ | ⟨-, e⟩ <;> rw [e]
  rw [State.voice_mapVoice_ne _ _ h, irqCheck_voice]

theorem onlySampling_blockEndStep (i : VoiceId) (s : State) : OnlySampling s (blockEndStep i s) := by
  unfold blockEndStep
  split
  · exact .refl s
  · split
    · split <;> rfl
    · rfl

theorem blockEndStep_voice_ne {i u : VoiceId} (s : State) (h : u ≠ i) : (blockEndStep i s).voice u = s.voice u := by
  unfold blockEndStep
  split
  · rfl
  · split
    · split
      · rw [State.voice_mapVoice_ne _ _ h]
      · rw [State.voice_keyOff, if_neg h, State.voice_setEndx, State.voice_mapVoice_ne _ _ h]
    · rw [State.voice_mapVoice_ne _ _ h]

theorem onlySampling_advanceVoice (i : VoiceId) (s : State) : OnlySampling s (advanceVoice i s) :=
  ((onlySampling_fetchStep i s).trans (onlySampling_mapVoice _ _ _)).trans (onlySampling_blockEndStep _ _)

theorem advanceVoice_voice_ne {i u : VoiceId} (s : State) (h : u ≠ i) : (advanceVoice i s).voice u = s.voice u := by
  rw [advanceVoice, blockEndStep_voice_ne _ h, State.voice_mapVoice_ne _ _ h, fetchStep_voice_ne _ h]

theorem onlySampling_volumeStep (p : Config.Params) (i : VoiceId) (x : Int) (s : State) :
    OnlySampling s (volumeStep p i x s).state := rfl

theorem onlySampling_sampleVoice (p : Config.Params) (i : VoiceId) (s : State) :
    OnlySampling s (sampleVoice p i s).state := by
  unfold sampleVoice
  split
  · exact ((onlySampling_advanceVoice i s).trans (onlySampling_mapVoice _ _ _)).trans (onlySampling_volumeStep _ _ _ _)
  · exact .refl s

theorem onlySampling_mixVoice (p : Config.Params) (m : Mixed) (i : VoiceId) :
    OnlySampling m.state (mixVoice p m i).state := onlySampling_sampleVoice p i m.state

theorem onlySampling_foldl_mixVoice (p : Config.Params) (vs : List VoiceId) (m : Mixed) :
    OnlySampling m.state (vs.foldl (mixVoice p) m).state := by
  induction vs generalizing m with
  | nil => exact .refl _
  | cons v vs ih => exact (onlySampling_mixVoice p m v).trans (ih _)

theorem onlySampling_mixVoices (p : Config.Params) (s : State) : OnlySampling s (mixVoices p s).state := by
  unfold mixVoices
  split
  · exact onlySampling_foldl_mixVoice p allVoices { state := s, left := 0, right := 0 }
  · exact .refl s

/-- The CD part of a sample in one expression: the frame taken, silence where there is none, is added, and leaves the FIFO (R145, R162). -/
theorem mixCd_eq (m : Mixed) :
    mixCd m =
      let cd : Frame := if m.state.cdAudioEnable then m.state.cdFifo.headD { left := 0, right := 0 } else { left := 0, right := 0 }
      { state := { m.state with cdFifo := if m.state.cdAudioEnable then m.state.cdFifo.tail else m.state.cdFifo }
        left := m.left + cd.left.toInt
        right := m.right + cd.right.toInt } := by
  obtain ⟨s, l, r⟩ := m
  unfold mixCd
  cases hf : s.cdFifo <;> cases hc : s.cdAudioEnable <;> cases s <;> simp_all

theorem onlySampling_mixCd (m : Mixed) : OnlySampling m.state (mixCd m).state := by
  unfold mixCd
  split
  · exact .refl _
  · split
    · rfl
    · exact .refl _

theorem onlySampling_generateSample (p : Config.Params) (s : State) : OnlySampling s (generateSample p s) :=
  ((onlySampling_mixVoices p s).trans (onlySampling_mixCd _)).trans (onlySampling_emitFrame _ _)

theorem onlySampling_generateSamples (p : Config.Params) (n : Nat) (s : State) : OnlySampling s (generateSamples p n s) := by
  induction n generalizing s with
  | zero => exact .refl s
  | succ n ih => exact (onlySampling_generateSample p s).trans (ih _)

/-- Execute writes what generating samples writes and nothing else (R144). -/
theorem onlySampling_execute (p : Config.Params) (t : Nat) (s : State) : OnlySampling s (execute p t s) := by
  have h : OnlySampling s { s with ticksCarry := (t + s.ticksCarry) % Config.ticksPerSample } := rfl
  unfold execute
  dsimp only
  split
  · exact h.trans (onlySampling_generateSamples p _ _)
  · exact h

/-- The catch-up of a voice write (R73). -/
theorem onlySampling_voiceCatchUp (p : Config.Params) (v : VoiceId) (t : Nat) (s : State) :
    OnlySampling s (voiceCatchUp p v t s) := by
  unfold voiceCatchUp
  split
  · exact onlySampling_execute p t s
  · exact .refl s

/-- Generating `m + n` samples is generating `m` and then `n`. -/
theorem generateSamples_add (p : Config.Params) (m n : Nat) (s : State) :
    generateSamples p (m + n) s = generateSamples p n (generateSamples p m s) := by
  induction m generalizing s with
  | zero => simp [generateSamples]
  | succ m ih => rw [Nat.succ_add, generateSamples, ih]; rfl

/-- Execute keeps the two enables, so a fully disabled unit stays so (R144, R176). -/
theorem OnlySampling.enables {s t : State} (h : OnlySampling s t) :
    t.enable = s.enable ∧ t.cdAudioEnable = s.cdAudioEnable ∧ t.irq9Enable = s.irq9Enable := by
  simp [State.enable, State.cdAudioEnable, State.irq9Enable, h.fields.1]

/-- An induction over the samples of an Execute: a property that the carry's change and every GenerateSample keep. -/
theorem execute_induction (p : Config.Params) (P : State → Prop) (t : Nat) (s : State)
    (carry : P { s with ticksCarry := (t + s.ticksCarry) % Config.ticksPerSample })
    (sample : ∀ u, P u → P (generateSample p u)) : P (execute p t s) := by
  have h : ∀ n u, P u → P (generateSamples p n u) := by
    intro n
    induction n with
    | zero => exact fun u hu => hu
    | succ n ih => exact fun u hu => ih _ (sample u hu)
  unfold execute
  dsimp only
  split
  · exact h _ _ carry
  · exact carry

end Sys2Proof.Machine
end

