-- ==== Sys2Proof/Laws/Voice.lean ====
section
/-! SUPPORT. The envelope parameters and the counter: their ranges, once for each operation on a voice. -/

namespace Sys2Proof.Machine

/-! ADSR parameters (R32, R33, R131) -/

theorem attackStep_le (low : Half) : attackStep low ≤ 3 := Nat.le_of_lt_succ (low.extractLsb' 8 2).isLt
theorem attackShift_le (low : Half) : attackShift low ≤ 31 := Nat.le_of_lt_succ (low.extractLsb' 10 5).isLt
theorem decayShift_le (low : Half) : decayShift low ≤ 15 := Nat.le_of_lt_succ (low.extractLsb' 4 4).isLt
theorem sustainShift_le (high : Half) : sustainShift high ≤ 31 := Nat.le_of_lt_succ (high.extractLsb' 8 5).isLt
theorem releaseShift_le (high : Half) : releaseShift high ≤ 31 := Nat.le_of_lt_succ (high.extractLsb' 0 5).isLt

/-- `shift` is 0 to 31 in every row of the PhaseTable (R40). -/
theorem phaseTarget_shift_le (p : Phase) (low high : Half) : (phaseTarget p low high).shift ≤ 31 := by
  cases p with
  | off => simp [phaseTarget]
  | attack => exact attackShift_le low
  | decay => exact (decayShift_le low).trans (by omega)
  | sustain => exact sustainShift_le high
  | release => exact releaseShift_le high

/-- `step` is 0 to 7 in every row of the PhaseTable (R40). -/
theorem phaseTarget_step_le (p : Phase) (low high : Half) : (phaseTarget p low high).step ≤ 7 := by
  cases p with
  | attack => have := attackStep_le low; simp only [phaseTarget]; omega
  | _ => simp [phaseTarget]

/-- `adsr_ticks` as a number: `2^max(0, shift - 11)`, with no wrap (R131). -/
theorem phaseTicks_toNat {t : AdsrTarget} (h : t.shift ≤ 31) : (phaseTicks t).toNat = 2 ^ (t.shift - 11) := by
  rw [phaseTicks, BitVec.toNat_ofNat, Nat.mod_eq_of_lt]
  exact Nat.pow_lt_pow_right (by omega) (by omega)

/-- `adsr_ticks` is 1 to 2^20 (R40). -/
theorem phaseTicks_pos {t : AdsrTarget} (h : t.shift ≤ 31) : 1 ≤ (phaseTicks t).toNat := by
  rw [phaseTicks_toNat h]; exact Nat.one_le_two_pow

theorem phaseTicks_le {t : AdsrTarget} (h : t.shift ≤ 31) : (phaseTicks t).toNat ≤ 2 ^ 20 := by
  rw [phaseTicks_toNat h]; exact Nat.pow_le_pow_right (by omega) (by omega)

/-! Arithmetic (R7) -/

theorem clamp_mem {lo hi : Int} (x : Int) (h : lo ≤ hi) : lo ≤ clamp x lo hi ∧ clamp x lo hi ≤ hi := by
  unfold clamp; omega

theorem clamp_of_mem {x lo hi : Int} (h : lo ≤ x) (k : x ≤ hi) : clamp x lo hi = x := by
  unfold clamp; omega

/-- A value in the range of an `s16` survives its storage. -/
theorem toInt_toS16 {x : Int} (h : -32768 ≤ x) (k : x ≤ 32767) : (toS16 x).toInt = x := by
  rw [toS16, BitVec.toInt_ofInt, Int.bmod_eq_of_le] <;> omega

theorem toInt_toS16_clampS16 (x : Int) : (toS16 (clampS16 x)).toInt = clampS16 x :=
  toInt_toS16 (clamp_mem x (by omega)).1 (clamp_mem x (by omega)).2

/-- The level after an envelope update is 0 to 0x7FFF (R43 item 3). -/
theorem Voice.nextLevel_mem (v : Voice) : 0 ≤ v.nextLevel ∧ v.nextLevel ≤ 0x7FFF := clamp_mem _ (by omega)

/-! TickADSR (R133) -/

/-- What one tick can do: count down, update and enter the next phase, or update and reload. -/
theorem Voice.tickAdsr_cases (v : Voice) :
    (v.adsrTicksRemaining - 1 ≠ 0 ∧ v.tickAdsr = { v with adsrTicksRemaining := v.adsrTicksRemaining - 1 }) ∨
    (v.adsrTicksRemaining - 1 = 0 ∧ v.phase ≠ .sustain ∧ reachedTarget v.target v.nextLevel = true ∧
      v.tickAdsr = Voice.enterPhase { v with adsrTicksRemaining := 0, adsrVolume := toS16 v.nextLevel } (nextPhase v.phase)) ∨
    (v.adsrTicksRemaining - 1 = 0 ∧ ¬(v.phase ≠ .sustain ∧ reachedTarget v.target v.nextLevel = true) ∧
      v.tickAdsr = { v with adsrTicksRemaining := v.adsrTicks, adsrVolume := toS16 v.nextLevel }) := by
  unfold Voice.tickAdsr
  split
  · exact .inl ⟨‹_›, rfl⟩
  · rename_i h
    have h0 : v.adsrTicksRemaining - 1 = 0 := not_not.mp h
    dsimp only
    split
    · rename_i hr; exact .inr (.inl ⟨h0, hr.1, hr.2, rfl⟩)
    · rename_i hr; exact .inr (.inr ⟨h0, hr, rfl⟩)

/-! Block end (R152 to R155) -/

/-- What step 4 can do to the state. -/
theorem blockEndStep_cases (i : VoiceId) (s : State) :
    (sampleIndex (s.voice i).counter < 28 ∧ blockEndStep i s = s) ∨
    (28 ≤ sampleIndex (s.voice i).counter ∧ (s.voice i).blockFlags.loopEnd = true ∧
      (s.voice i).blockFlags.loopRepeat = true ∧
      blockEndStep i s = s.mapVoice i (fun v => { v.leaveBlock with currentAddress := v.repeatAddress })) ∨
    (28 ≤ sampleIndex (s.voice i).counter ∧ (s.voice i).blockFlags.loopEnd = true ∧
      (s.voice i).blockFlags.loopRepeat = false ∧
      blockEndStep i s = keyOff i (setEndx i (s.mapVoice i Voice.leaveBlock))) ∨
    (28 ≤ sampleIndex (s.voice i).counter ∧ (s.voice i).blockFlags.loopEnd = false ∧
      blockEndStep i s = s.mapVoice i (fun v => { v.leaveBlock with currentAddress := v.currentAddress + 2 })) := by
  unfold blockEndStep
  split
  · exact .inl ⟨‹_›, rfl⟩
  · rename_i h
    have h' := not_lt.mp h
    split
    · split
      · exact .inr (.inl ⟨h', ‹_›, ‹_›, rfl⟩)
      · exact .inr (.inr (.inl ⟨h', ‹_›, Bool.eq_false_iff.mpr ‹_›, rfl⟩))
    · exact .inr (.inr (.inr ⟨h', Bool.eq_false_iff.mpr ‹_›, rfl⟩))

/-- `sample_index` as a number (R35). -/
theorem sampleIndex_eq (c : Word) : sampleIndex c = c.toNat / 2 ^ 12 % 2 ^ 5 := by
  simp [sampleIndex, BitVec.extractLsb', Nat.shiftRight_eq_div_pow]

/-- `interpolation_index` as a number (R35). -/
theorem interpolationIndex_eq (c : Word) : interpolationIndex c = c.toNat / 2 ^ 4 % 2 ^ 8 := by
  simp [interpolationIndex, BitVec.extractLsb', Nat.shiftRight_eq_div_pow]

/-- The byte index of a voice address is 8 times the address, with no wrap (R70, R113). -/
theorem addressIndex_toNat (a : Half) : (addressIndex a).toNat = 8 * a.toNat := by
  rw [addressIndex, BitVec.toNat_append]
  have : a.toNat <<< 3 ||| (0#3).toNat = a.toNat <<< 3 := by simp
  rw [this, Nat.shiftLeft_eq]; omega

end Sys2Proof.Machine
end

