-- ==== Sys2Proof/Laws/HostRegs.lean ====
section
/-! SUPPORT. The six voice registers that only the host writes: no operation of the sample path or of key control changes them. -/

namespace Sys2Proof.Machine

/-- The voice registers that no rule but their own write and the reset moves (R30): volumes, rate, start address, ADSR words. -/
def Voice.hostRegs (v : Voice) : Half × Half × Half × Half × Half × Half :=
  (v.volumeLeft, v.volumeRight, v.sampleRate, v.startAddress, v.adsrLow, v.adsrHigh)

@[simp] theorem Voice.hostRegs_enterPhase (v : Voice) (p : Phase) : (v.enterPhase p).hostRegs = v.hostRegs := rfl

@[simp] theorem Voice.hostRegs_keyOn (v : Voice) : v.keyOn.hostRegs = v.hostRegs := rfl

@[simp] theorem Voice.hostRegs_keyOff (v : Voice) : v.keyOff.hostRegs = v.hostRegs := by
  unfold Voice.keyOff; split <;> rfl

@[simp] theorem Voice.hostRegs_tickAdsr (v : Voice) : v.tickAdsr.hostRegs = v.hostRegs := by
  rcases v.tickAdsr_cases with ⟨-, e⟩ | ⟨-, -, -, e⟩ | ⟨-, -, e⟩ <;> rw [e] <;> rfl

@[simp] theorem Voice.hostRegs_pitchStep (v : Voice) : v.pitchStep.hostRegs = v.hostRegs := rfl

@[simp] theorem Voice.hostRegs_takeBlock (v : Voice) (blk : Block) : (v.takeBlock blk).hostRegs = v.hostRegs := by
  unfold Voice.takeBlock; dsimp only; split <;> simp [Voice.hostRegs]

/-- An operation that changes one voice by a function keeps the six registers of every voice if the function keeps them. -/
theorem hostRegs_mapVoice (s : State) (i v : VoiceId) {f : Voice → Voice} (h : ∀ x, (f x).hostRegs = x.hostRegs) :
    ((s.mapVoice i f).voice v).hostRegs = (s.voice v).hostRegs := by
  by_cases e : v = i
  · subst e; rw [State.voice_mapVoice_self, h]
  · rw [State.voice_mapVoice_ne _ _ e]

theorem hostRegs_fetchStep (i v : VoiceId) (s : State) : ((fetchStep i s).voice v).hostRegs = (s.voice v).hostRegs := by
  rcases fetchStep_cases i s with ⟨-, e⟩ | ⟨-, e⟩ <;> rw [e]
  rw [hostRegs_mapVoice _ _ _ fun x => x.hostRegs_takeBlock _, irqCheck_voice]

theorem hostRegs_blockEndStep (i v : VoiceId) (s : State) : ((blockEndStep i s).voice v).hostRegs = (s.voice v).hostRegs := by
  rcases blockEndStep_cases i s with ⟨-, e⟩ | ⟨-, -, -, e⟩ | ⟨-, -, -, e⟩ | ⟨-, -, e⟩ <;> rw [e]
  · exact hostRegs_mapVoice _ _ _ fun _ => rfl
  · refine (hostRegs_mapVoice _ _ _ Voice.hostRegs_keyOff).trans ?_
    rw [State.voice_setEndx]
    exact hostRegs_mapVoice _ _ _ fun _ => rfl
  · exact hostRegs_mapVoice _ _ _ fun _ => rfl

theorem hostRegs_sampleVoice (p : Config.Params) (i v : VoiceId) (s : State) :
    ((sampleVoice p i s).state.voice v).hostRegs = (s.voice v).hostRegs := by
  unfold sampleVoice
  split
  · refine (hostRegs_mapVoice (advanceVoice i s) i v Voice.hostRegs_tickAdsr).trans ?_
    rw [advanceVoice, hostRegs_blockEndStep, hostRegs_mapVoice _ _ _ Voice.hostRegs_pitchStep, hostRegs_fetchStep]
  · rfl

/-- Generating a sample keeps the six registers of every voice. -/
theorem hostRegs_generateSample (p : Config.Params) (v : VoiceId) (s : State) :
    ((generateSample p s).voice v).hostRegs = (s.voice v).hostRegs := by
  have fold : ∀ (is : List VoiceId) (m : Mixed),
      ((is.foldl (mixVoice p) m).state.voice v).hostRegs = (m.state.voice v).hostRegs := by
    intro is
    induction is with
    | nil => exact fun _ => rfl
    | cons i is ih => exact fun m => (ih _).trans (hostRegs_sampleVoice p i v m.state)
  have voices : ((mixVoices p s).state.voice v).hostRegs = (s.voice v).hostRegs := by
    unfold mixVoices
    split
    · exact fold _ _
    · rfl
  refine Eq.trans ?_ voices
  show ((mixCd (mixVoices p s)).state.voice v).hostRegs = _
  unfold mixCd
  split
  · rfl
  · split <;> rfl

/-- Execute keeps the six registers of every voice. -/
theorem hostRegs_execute (p : Config.Params) (t : Nat) (v : VoiceId) (s : State) :
    ((execute p t s).voice v).hostRegs = (s.voice v).hostRegs :=
  execute_induction p (fun u => (u.voice v).hostRegs = (s.voice v).hostRegs) t s rfl
    fun u h => (hostRegs_generateSample p v u).trans h

/-- So does the catch-up of a voice write. -/
theorem hostRegs_voiceCatchUp (p : Config.Params) (i v : VoiceId) (t : Nat) (s : State) :
    ((voiceCatchUp p i t s).voice v).hostRegs = (s.voice v).hostRegs := by
  unfold voiceCatchUp
  split
  · exact hostRegs_execute p t v s
  · rfl

/-- KeyOn and KeyOff of the voices of a mask keep the six registers of every voice. -/
theorem hostRegs_forVoices {act : VoiceId → State → State} (h : ∀ i v s, ((act i s).voice v).hostRegs = (s.voice v).hostRegs)
    (m : Word) (v : VoiceId) (s : State) : ((forVoices act m s).voice v).hostRegs = (s.voice v).hostRegs :=
  forVoices_induction (fun u => (u.voice v).hostRegs = (s.voice v).hostRegs) m s rfl fun i u _ e => (h i v u).trans e

theorem hostRegs_keyOn (p : Config.Params) (i v : VoiceId) (s : State) : ((keyOn p i s).voice v).hostRegs = (s.voice v).hostRegs :=
  hostRegs_mapVoice (clearEndxOnKeyOn p i s) i v Voice.hostRegs_keyOn

theorem hostRegs_keyOff (i v : VoiceId) (s : State) : ((keyOff i s).voice v).hostRegs = (s.voice v).hostRegs :=
  hostRegs_mapVoice s i v Voice.hostRegs_keyOff

end Sys2Proof.Machine
end

