-- ==== Sys2Proof/Laws/Memory.lean ====
section
/-! SUPPORT. The audio RAM: every operation keeps the canonical form, canonical memories with equal contents are equal, and what a
read gives after a write. -/

namespace Sys2Proof.Machine

/-! The canonical form -/

theorem Memory.wfFrom_cons (lo : Nat) (a : Nat) (b : Byte) (m : Memory) :
    Memory.wfFrom lo ((a, b) :: m) = true ↔
      lo ≤ a ∧ a < Config.ramSize ∧ b ≠ Memory.background ∧ Memory.wfFrom (a + 1) m = true := by
  simp [Memory.wfFrom, and_assoc]

theorem Memory.wfFrom_mono {m : Memory} {lo lo' : Nat} (h : Memory.wfFrom lo m = true) (hl : lo' ≤ lo) :
    Memory.wfFrom lo' m = true := by
  cases m with
  | nil => rfl
  | cons c m =>
    obtain ⟨a, b⟩ := c
    rw [wfFrom_cons] at h ⊢
    exact ⟨hl.trans h.1, h.2⟩

theorem Memory.wfFrom_write {m : Memory} {lo a : Nat} {b : Byte} (h : Memory.wfFrom lo m = true) (hlo : lo ≤ a)
    (ha : a < Config.ramSize) : Memory.wfFrom lo (m.write a b) = true := by
  induction m generalizing lo with
  | nil =>
    unfold Memory.write
    split
    · rfl
    · rw [wfFrom_cons]; exact ⟨hlo, ha, ‹_›, rfl⟩
  | cons c m ih =>
    obtain ⟨k, c⟩ := c
    rw [wfFrom_cons] at h
    obtain ⟨h1, h2, h3, h4⟩ := h
    unfold Memory.write
    split
    · split
      · rw [wfFrom_cons]; exact ⟨h1, h2, h3, h4⟩
      · rw [wfFrom_cons, wfFrom_cons]; exact ⟨hlo, ha, ‹_›, by omega, h2, h3, h4⟩
    · split
      · subst k
        split
        · exact wfFrom_mono h4 (by omega)
        · rw [wfFrom_cons]; exact ⟨h1, h2, ‹_›, h4⟩
      · rw [wfFrom_cons]; exact ⟨h1, h2, h3, ih h4 (by omega)⟩

/-- A write at a RAM index keeps the canonical form. -/
theorem Memory.wf_write {m : Memory} {a : Nat} {b : Byte} (h : m.wf = true) (ha : a < Config.ramSize) :
    (m.write a b).wf = true := wfFrom_write h (Nat.zero_le _) ha

theorem ramIndex_lt (i : RamIndex) : i.toNat < Config.ramSize := i.isLt

/-- A run of stored bytes keeps the canonical form. -/
theorem writeBytes_wf {m : Memory} {i : RamIndex} {bs : List Byte} (h : m.wf = true) : (writeBytes m i bs).wf = true := by
  induction bs generalizing m i with
  | nil => exact h
  | cons b bs ih => exact ih (Memory.wf_write h (ramIndex_lt i))

/-- The stores of a DMA write are one run of bytes: word after word, each low byte first. -/
theorem writeWords_eq_writeBytes (m : Memory) (i : RamIndex) (ws : List Word) :
    writeWords m i ws = writeBytes m i (ws.flatMap wordBytes) := by
  induction ws generalizing m i with
  | nil => rfl
  | cons w ws ih =>
    simp only [writeWords, ih, List.flatMap_cons]
    simp only [wordBytes, List.cons_append, List.nil_append, writeBytes]
    congr 1
    simp only [BitVec.add_assoc]
    rfl

theorem writeWords_wf {m : Memory} {i : RamIndex} {ws : List Word} (h : m.wf = true) : (writeWords m i ws).wf = true := by
  rw [writeWords_eq_writeBytes]; exact writeBytes_wf h

theorem State.reset_ram_wf : State.reset.ram.wf = true := rfl

/-! Reads -/

theorem Memory.read_of_lt {m : Memory} {lo a : Nat} (h : Memory.wfFrom lo m = true) (ha : a < lo) :
    m.read a = Memory.background := by
  induction m generalizing lo with
  | nil => rfl
  | cons c m ih =>
    obtain ⟨k, c⟩ := c
    rw [wfFrom_cons] at h
    unfold Memory.read
    rw [if_neg (by omega)]
    exact ih h.2.2.2 (by omega)

theorem Memory.read_write_from {m : Memory} {lo : Nat} (h : Memory.wfFrom lo m = true) (a : Nat) (b : Byte) (c : Nat) :
    (m.write a b).read c = if c = a then b else m.read c := by
  induction m generalizing lo with
  | nil =>
    unfold Memory.write
    by_cases hb : b = Memory.background <;> simp [hb, Memory.read]
  | cons d m ih =>
    obtain ⟨k, d⟩ := d
    rw [wfFrom_cons] at h
    have hr := fun {x : Nat} (hx : x < k + 1) => Memory.read_of_lt h.2.2.2 hx
    unfold Memory.write
    split
    · by_cases hb : b = Memory.background
      · rw [if_pos hb]
        split
        · subst c; subst hb
          rw [Memory.read, if_neg (by omega), hr (by omega)]
        · rfl
      · rw [if_neg hb, Memory.read]
    · split
      · subst k
        by_cases hb : b = Memory.background
        · rw [if_pos hb]
          split
          · subst c; rw [hr (by omega), hb]
          · rw [Memory.read, if_neg ‹_›]
        · rw [if_neg hb, Memory.read]
          split
          · rfl
          · rw [Memory.read, if_neg ‹_›]
      · rw [Memory.read, Memory.read, ih h.2.2.2]
        split
        · rw [if_neg (by omega)]
        · rfl

/-- A read after a write to a canonical memory: the byte written at its index, every other byte as before. -/
theorem Memory.read_write {m : Memory} (h : m.wf = true) (a : Nat) (b : Byte) (c : Nat) :
    (m.write a b).read c = if c = a then b else m.read c := read_write_from h a b c

theorem ramByte_write {m : Memory} (h : m.wf = true) (i : RamIndex) (b : Byte) (j : RamIndex) :
    ramByte (m.write i.toNat b) j = if j = i then b else ramByte m j := by
  simp only [ramByte, Memory.read_write h, BitVec.toNat_inj]

/-- A read after a run of stores no longer than the RAM: byte `k` of the run at `i + k` modulo `RAM_SIZE`, and every other byte
as before. -/
theorem ramByte_writeBytes {m : Memory} (h : m.wf = true) (i : RamIndex) (bs : List Byte) (hb : bs.length ≤ Config.ramSize)
    (j : RamIndex) : ramByte (writeBytes m i bs) j = bs.getD (j - i).toNat (ramByte m j) := by
  induction bs generalizing m i with
  | nil => simp [writeBytes]
  | cons b bs ih =>
    simp only [List.length_cons, Config.ramSize] at hb
    rw [writeBytes, ih (Memory.wf_write h (ramIndex_lt i)) _ (by simp only [Config.ramSize]; omega), ramByte_write h]
    by_cases hj : j = i
    · subst j
      have : bs.length ≤ (i - (i + 1)).toNat := by
        have : i - (i + 1) = -1 := by ring
        rw [this]
        have : (-1 : RamIndex).toNat = 0x7FFFF := rfl
        simp only [this]; omega
      rw [List.getD_eq_default _ _ this]
      simp
    · have hn : (j - i).toNat = (j - (i + 1)).toNat + 1 := by
        have : j - i ≠ 0 := fun e => hj (by rw [← sub_eq_zero]; exact e)
        bv_omega
      rw [hn, List.getD_cons_succ, if_neg hj]

/-! Equal contents are equal data -/

theorem Memory.wfFrom_ext {m n : Memory} {lo : Nat} (hm : Memory.wfFrom lo m = true) (hn : Memory.wfFrom lo n = true)
    (h : ∀ a, m.read a = n.read a) : m = n := by
  induction m generalizing n lo with
  | nil =>
    cases n with
    | nil => rfl
    | cons c n =>
      obtain ⟨k, c⟩ := c
      rw [wfFrom_cons] at hn
      have := h k
      rw [Memory.read, Memory.read, if_pos rfl] at this
      exact absurd this.symm hn.2.2.1
  | cons c m ih =>
    obtain ⟨k, c⟩ := c
    rw [wfFrom_cons] at hm
    cases n with
    | nil =>
      have := h k
      rw [Memory.read, Memory.read, if_pos rfl] at this
      exact absurd this hm.2.2.1
    | cons d n =>
      obtain ⟨l, d⟩ := d
      rw [wfFrom_cons] at hn
      have hkl : k = l := by
        rcases Nat.lt_trichotomy k l with hlt | he | hgt
        · have := h k
          rw [Memory.read, if_pos rfl, Memory.read, if_neg (by omega), Memory.read_of_lt hn.2.2.2 (by omega)] at this
          exact absurd this hm.2.2.1
        · exact he
        · have := h l
          rw [Memory.read, if_neg (by omega), Memory.read_of_lt hm.2.2.2 (by omega), Memory.read, if_pos rfl] at this
          exact absurd this.symm hn.2.2.1
      subst l
      have hcd : c = d := by simpa [Memory.read] using h k
      subst d
      rw [ih hm.2.2.2 hn.2.2.2]
      intro a
      by_cases ha : a = k
      · subst a; rw [Memory.read_of_lt hm.2.2.2 (by omega), Memory.read_of_lt hn.2.2.2 (by omega)]
      · simpa [Memory.read, ha] using h a

/-- Canonical memories that read the same everywhere are the same data. -/
theorem Memory.wf_ext {m n : Memory} (hm : m.wf = true) (hn : n.wf = true) (h : ∀ a, m.read a = n.read a) : m = n :=
  wfFrom_ext hm hn h

/-! DMA reads -/

@[simp] theorem readWords_length (m : Memory) (i : RamIndex) (n : Nat) : (readWords m i n).length = n := by
  induction n generalizing i with
  | zero => rfl
  | succ n ih => simp [readWords, ih]

theorem readWords_getElem (m : Memory) (i : RamIndex) (n k : Nat) (h : k < n) :
    (readWords m i n)[k]'(by simpa using h) = readWord m (i + BitVec.ofNat 19 (4 * k)) := by
  induction n generalizing i k with
  | zero => omega
  | succ n ih =>
    cases k with
    | zero => simp [readWords]
    | succ k =>
      simp only [readWords, List.getElem_cons_succ]
      rw [ih _ k (by omega)]
      congr 1
      rw [Nat.mul_succ, Nat.add_comm (4 * k) 4, BitVec.ofNat_add, ← BitVec.add_assoc]
      rfl

end Sys2Proof.Machine
end

