-- ==== Sys2Proof/Laws/PerInstr.lean ====
section
/-! SUPPORT. One family of lemmas, a lemma for each constructor of Instr. EncodedShape: the encoded word of a transaction has its
zero field at 0 and a kind other than the reserved 7, so the decoder does not refuse it for either (R61, R66). -/

namespace Sys2Proof.Laws.EncodedShape

/-- The encoded word of `i` has `zero = 0` and `kind` not 7. -/
def Statement (i : Instr) : Prop := zeroField (encode i).word = 0#3 ∧ kindField (encode i).word ≠ 7#3

/-- Every assembled word of a kind other than 7 has the shape. -/
theorem of_makeWord {k : BitVec 3} (h : k ≠ 7#3) (o : Offset) (d : Half) :
    zeroField (makeWord k o d) = 0#3 ∧ kindField (makeWord k o d) ≠ 7#3 :=
  ⟨zeroField_makeWord k o d, by rwa [kindField_makeWord]⟩

theorem rdVolL (voice : VoiceId) : Statement (.rdVolL voice) := of_makeWord (by decide) _ _
theorem wrVolL (voice : VoiceId) (data : Half) (tSync : Nat) : Statement (.wrVolL voice data tSync) := of_makeWord (by decide) _ _
theorem rdVolR (voice : VoiceId) : Statement (.rdVolR voice) := of_makeWord (by decide) _ _
theorem wrVolR (voice : VoiceId) (data : Half) (tSync : Nat) : Statement (.wrVolR voice data tSync) := of_makeWord (by decide) _ _
theorem rdPitch (voice : VoiceId) : Statement (.rdPitch voice) := of_makeWord (by decide) _ _
theorem wrPitch (voice : VoiceId) (data : Half) (tSync : Nat) : Statement (.wrPitch voice data tSync) := of_makeWord (by decide) _ _
theorem rdSaddr (voice : VoiceId) : Statement (.rdSaddr voice) := of_makeWord (by decide) _ _
theorem wrSaddr (voice : VoiceId) (data : Half) (tSync : Nat) : Statement (.wrSaddr voice data tSync) := of_makeWord (by decide) _ _
theorem rdAdsrLo (voice : VoiceId) : Statement (.rdAdsrLo voice) := of_makeWord (by decide) _ _
theorem wrAdsrLo (voice : VoiceId) (data : Half) (tSync : Nat) : Statement (.wrAdsrLo voice data tSync) := of_makeWord (by decide) _ _
theorem rdAdsrHi (voice : VoiceId) : Statement (.rdAdsrHi voice) := of_makeWord (by decide) _ _
theorem wrAdsrHi (voice : VoiceId) (data : Half) (tSync : Nat) : Statement (.wrAdsrHi voice data tSync) := of_makeWord (by decide) _ _
theorem rdAdsrVol (voice : VoiceId) : Statement (.rdAdsrVol voice) := of_makeWord (by decide) _ _
theorem wrAdsrVol (voice : VoiceId) (data : Half) (tSync : Nat) : Statement (.wrAdsrVol voice data tSync) := of_makeWord (by decide) _ _
theorem rdRaddr (voice : VoiceId) : Statement (.rdRaddr voice) := of_makeWord (by decide) _ _
theorem wrRaddr (voice : VoiceId) (data : Half) (tSync : Nat) : Statement (.wrRaddr voice data tSync) := of_makeWord (by decide) _ _
theorem rdMvolL : Statement .rdMvolL := of_makeWord (by decide) _ _
theorem wrMvolL (data : Half) (tSync : Nat) : Statement (.wrMvolL data tSync) := of_makeWord (by decide) _ _
theorem rdMvolR : Statement .rdMvolR := of_makeWord (by decide) _ _
theorem wrMvolR (data : Half) (tSync : Nat) : Statement (.wrMvolR data tSync) := of_makeWord (by decide) _ _
theorem rdKonLo : Statement .rdKonLo := of_makeWord (by decide) _ _
theorem wrKonLo (data : Half) (tSync : Nat) : Statement (.wrKonLo data tSync) := of_makeWord (by decide) _ _
theorem rdKonHi : Statement .rdKonHi := of_makeWord (by decide) _ _
theorem wrKonHi (data : Half) (tSync : Nat) : Statement (.wrKonHi data tSync) := of_makeWord (by decide) _ _
theorem rdKoffLo : Statement .rdKoffLo := of_makeWord (by decide) _ _
theorem wrKoffLo (data : Half) (tSync : Nat) : Statement (.wrKoffLo data tSync) := of_makeWord (by decide) _ _
theorem rdKoffHi : Statement .rdKoffHi := of_makeWord (by decide) _ _
theorem wrKoffHi (data : Half) (tSync : Nat) : Statement (.wrKoffHi data tSync) := of_makeWord (by decide) _ _
theorem rdEonLo : Statement .rdEonLo := of_makeWord (by decide) _ _
theorem wrEonLo (data : Half) (tSync : Nat) : Statement (.wrEonLo data tSync) := of_makeWord (by decide) _ _
theorem rdEonHi : Statement .rdEonHi := of_makeWord (by decide) _ _
theorem wrEonHi (data : Half) (tSync : Nat) : Statement (.wrEonHi data tSync) := of_makeWord (by decide) _ _
theorem rdEndxLo : Statement .rdEndxLo := of_makeWord (by decide) _ _
theorem wrEndxLo (data : Half) : Statement (.wrEndxLo data) := of_makeWord (by decide) _ _
theorem rdEndxHi : Statement .rdEndxHi := of_makeWord (by decide) _ _
theorem wrEndxHi (data : Half) : Statement (.wrEndxHi data) := of_makeWord (by decide) _ _
theorem rdIrqAddr : Statement .rdIrqAddr := of_makeWord (by decide) _ _
theorem wrIrqAddr (data : Half) : Statement (.wrIrqAddr data) := of_makeWord (by decide) _ _
theorem rdTaddr : Statement .rdTaddr := of_makeWord (by decide) _ _
theorem wrTaddr (data : Half) : Statement (.wrTaddr data) := of_makeWord (by decide) _ _
theorem rdTdata : Statement .rdTdata := of_makeWord (by decide) _ _
theorem wrTdata (data : Half) : Statement (.wrTdata data) := of_makeWord (by decide) _ _
theorem rdSpucnt : Statement .rdSpucnt := of_makeWord (by decide) _ _
theorem wrSpucnt (data : Half) : Statement (.wrSpucnt data) := of_makeWord (by decide) _ _
theorem rdSpustat : Statement .rdSpustat := of_makeWord (by decide) _ _
theorem wrSpustat (data : Half) : Statement (.wrSpustat data) := of_makeWord (by decide) _ _
theorem rdUnknown (off : Offset) : Statement (.rdUnknown off) := of_makeWord (by decide) _ _
theorem wrUnknown (off : Offset) (data : Half) : Statement (.wrUnknown off data) := of_makeWord (by decide) _ _
theorem dmaRead (n : Nat) : Statement (.dmaRead n) := of_makeWord (by decide) _ _
theorem dmaWrite (words : List Word) : Statement (.dmaWrite words) := of_makeWord (by decide) _ _
theorem execute (ticks : Nat) : Statement (.execute ticks) := of_makeWord (by decide) _ _
theorem cdPush (left right : Half) : Statement (.cdPush left right) := of_makeWord (by decide) _ _
theorem reset : Statement .reset := of_makeWord (by decide) _ _

end Sys2Proof.Laws.EncodedShape
end

