-- ==== Sys2Proof/Laws/Unread.lean ====
section
/-! SUPPORT. What the sample path does not read: each of its operations commutes with a change of those fields, up to Execute. -/

namespace Sys2Proof.Machine

/-- Values for the fields that no sample reads, SPUCNT among them for its stored-only bits (R16, R18, R21, R25). -/
structure Unread where
  spucnt : Half
  mainVolL : Half
  mainVolR : Half
  kon : Word
  koff : Word
  eon : Word
  taddr : Half
  cursor : RamIndex
  ticksCarry : Nat
  dmaRequest : Bool
  diags : List DiagCode
  inbox : List Request
  reply : Reply

/-- `s` with the fields of `u` in place of its own. -/
def Unread.put (u : Unread) (s : State) : State :=
  { s with
    spucnt := u.spucnt, mainVolL := u.mainVolL, mainVolR := u.mainVolR, kon := u.kon, koff := u.koff, eon := u.eon, taddr := u.taddr,
    cursor := u.cursor, ticksCarry := u.ticksCarry, dmaRequest := u.dmaRequest, diags := u.diags, inbox := u.inbox, reply := u.reply }

/-- `u` and `s` agree on the three SPUCNT bits that a sample reads (R16). -/
structure Unread.Agrees (u : Unread) (s : State) : Prop where
  enable : u.spucnt.getLsbD 15 = s.enable
  irq9Enable : u.spucnt.getLsbD 6 = s.irq9Enable
  cdAudioEnable : u.spucnt.getLsbD 0 = s.cdAudioEnable

theorem Unread.Agrees.sampled {u : Unread} {s t : State} (h : u.Agrees s) (k : OnlySampling s t) : u.Agrees t := by
  obtain ⟨e1, e2, e3⟩ := k.enables
  exact ⟨h.enable.trans e1.symm, h.irq9Enable.trans e3.symm, h.cdAudioEnable.trans e2.symm⟩

theorem Unread.put_mapVoice (u : Unread) (i : VoiceId) (f : Voice → Voice) (s : State) :
    (u.put s).mapVoice i f = u.put (s.mapVoice i f) := rfl

theorem irqCheck_put {u : Unread} {s : State} (h : u.Agrees s) (a : Half) : irqCheck a (u.put s) = u.put (irqCheck a s) := by
  have e : (u.put s).irq9Enable = s.irq9Enable := h.irq9Enable
  unfold irqCheck
  rw [e]
  show (if (s.irq9Enable && irqMatches s.irqAddr a) = true then if s.irq9Flag = true then u.put s else _ else u.put s) = _
  split
  · split <;> rfl
  · rfl

theorem fetchStep_put {u : Unread} {s : State} (h : u.Agrees s) (i : VoiceId) : fetchStep i (u.put s) = u.put (fetchStep i s) := by
  unfold fetchStep
  show (if (s.voice i).hasSamples = true then u.put s else _) = _
  split
  · rfl
  · have e := irqCheck_put h (s.voice i).currentAddress
    show (irqCheck (s.voice i).currentAddress (u.put s)).mapVoice i _ = _
    rw [e]; rfl

theorem blockEndStep_put (u : Unread) (i : VoiceId) (s : State) : blockEndStep i (u.put s) = u.put (blockEndStep i s) := by
  unfold blockEndStep
  show (if sampleIndex (s.voice i).counter < 28 then u.put s
    else if (s.voice i).blockFlags.loopEnd = true then if (s.voice i).blockFlags.loopRepeat = true then _ else _ else _) = _
  split
  · rfl
  · split
    · split <;> rfl
    · rfl

/-- A result of mixing with the fields of `u` in place of its own. -/
def Unread.putMixed (u : Unread) (m : Mixed) : Mixed := { m with state := u.put m.state }

theorem sampleVoice_put {u : Unread} {s : State} (p : Config.Params) (h : u.Agrees s) (i : VoiceId) :
    sampleVoice p i (u.put s) = u.putMixed (sampleVoice p i s) := by
  have e : advanceVoice i (u.put s) = u.put (advanceVoice i s) := by
    rw [advanceVoice, fetchStep_put h, Unread.put_mapVoice, blockEndStep_put, advanceVoice]
  unfold sampleVoice
  rw [e]
  show (if (s.voice i).isOn = true then _ else _) = _
  split <;> rfl

theorem foldl_mixVoice_put {u : Unread} (p : Config.Params) (vs : List VoiceId) (m : Mixed) (h : u.Agrees m.state) :
    vs.foldl (mixVoice p) (u.putMixed m) = u.putMixed (vs.foldl (mixVoice p) m) := by
  induction vs generalizing m with
  | nil => rfl
  | cons v vs ih =>
    have e : mixVoice p (u.putMixed m) v = u.putMixed (mixVoice p m v) := by
      unfold mixVoice
      show Mixed.mk (sampleVoice p v (u.put m.state)).state _ _ = _
      have := sampleVoice_put p h v
      simp only [Unread.putMixed] at *
      rw [this]
    rw [List.foldl_cons, e, ih _ (h.sampled (onlySampling_mixVoice p m v)), List.foldl_cons]

/-- One sample reads none of the fields of `Unread` but three bits of SPUCNT, and writes none of them. -/
theorem generateSample_put {u : Unread} {s : State} (p : Config.Params) (h : u.Agrees s) :
    generateSample p (u.put s) = u.put (generateSample p s) := by
  have voices : mixVoices p (u.put s) = u.putMixed (mixVoices p s) := by
    unfold mixVoices
    rw [show (u.put s).enable = s.enable from h.enable]
    split
    · exact foldl_mixVoice_put p allVoices { state := s, left := 0, right := 0 } h
    · rfl
  have hc := h.sampled (onlySampling_mixVoices p s)
  have cd : mixCd (u.putMixed (mixVoices p s)) = u.putMixed (mixCd (mixVoices p s)) := by
    rw [mixCd_eq, mixCd_eq, show (u.putMixed (mixVoices p s)).state.cdAudioEnable = (mixVoices p s).state.cdAudioEnable from
      hc.cdAudioEnable]
    rfl
  rw [generateSample, voices, cd]
  rfl

/-- One sample leaves the carry alone (R144). -/
theorem generateSample_ticksCarry (p : Config.Params) (s : State) : (generateSample p s).ticksCarry = s.ticksCarry := by
  let u : Unread :=
    { spucnt := s.spucnt, mainVolL := s.mainVolL, mainVolR := s.mainVolR, kon := s.kon, koff := s.koff, eon := s.eon, taddr := s.taddr
      cursor := s.cursor, ticksCarry := s.ticksCarry, dmaRequest := s.dmaRequest, diags := s.diags, inbox := s.inbox, reply := s.reply }
  have h : generateSample p (u.put s) = u.put (generateSample p s) := generateSample_put p ⟨rfl, rfl, rfl⟩
  rw [show u.put s = s from rfl] at h
  rw [h]
  rfl

/-- The samples of one Execute commute with a change of the fields they do not read. -/
theorem generateSamples_put {u : Unread} (p : Config.Params) (n : Nat) {s : State} (h : u.Agrees s) :
    generateSamples p n (u.put s) = u.put (generateSamples p n s) := by
  induction n generalizing s with
  | zero => rfl
  | succ n ih =>
    rw [generateSamples, generateSample_put p h, ih (h.sampled (onlySampling_generateSample p s)), generateSamples]

end Sys2Proof.Machine
end

