-- ==== Sys2Proof/Tests/Slice0.lean ====
section
/-! SUPPORT. The model's own tests: refusals of ill-formed terms, every row's word as the decoder reads it, one step per test on
the vectors of spec 95_test_vectors.md, and for each statement with hypotheses a concrete case that meets them. -/

namespace Sys2Proof.Tests

set_option Elab.async false

open Sys2Proof Sys2Proof.Machine

/-! Helpers -/

/-- What the decoder reads from a word and payload, if it does not refuse. -/
def reads (w : Word) (p : Payload := {}) : Option Instr :=
  match decode { word := w, payload := p } with
  | .ok i => some i
  | .error _ => none

/-- Why the decoder refuses a word, if it does. -/
def refuses (w : Word) : Option DecodeError :=
  match decode { word := w } with
  | .ok _ => none
  | .error e => some e

/-- `exec i s` answers a next state with property `p`. -/
def goes (i : Instr) (s : State) (p : State → Bool) : Bool :=
  match exec i s with
  | .next t => p t
  | _ => false

/-- The reset state with voice 0 replaced. -/
def withVoice (x : Voice) (s : State := State.reset) : State := s.setVoice 0 x

/-- A voice whose eight host registers hold 1 to 8. -/
def voice18 : Voice :=
  { Voice.reset with volumeLeft := 1, volumeRight := 2, sampleRate := 3, startAddress := 4, adsrLow := 5, adsrHigh := 6, adsrVolume := 7,
                     repeatAddress := 8 }

/-- Global registers with distinct halves. -/
def globals : State :=
  { State.reset with mainVolL := 0x1111, mainVolR := 0x2222, kon := 0x33334444, koff := 0x55556666, eon := 0x77778888,
                     endx := 0x00ABCDEF, irqAddr := 0x9999, taddr := 0xAAAA, spucnt := 0xBBBB, irq9Flag := true }

/-- A voice just keyed on with the ADSR registers of vector row 0x288E / 0x1F00 and the rate of one sample per sample. -/
def keyed : Voice := Voice.keyOn { Voice.reset with adsrLow := 0x288E, adsrHigh := 0x1F00, sampleRate := 0x1000 }

/-- Voice 0 of `keyed` in an enabled unit with the IRQ enabled at voice address 1 (scenario 5). -/
def playing : State := withVoice keyed { State.reset with spucnt := 0x8040, irqAddr := 1 }

/-- The declared test table of 95_test_vectors.md, `63 * (k + 1)`, with the other parameters as its vectors take them. -/
def testParams : Config.Params where
  regBase := 0x1F801C00
  gauss k := BitVec.ofNat 16 (63 * (k.val + 1))
  decodeVolume := defaultDecodeVolume
  sweepVolume _ v := v
  cdFifoCapacityLessOne := 1
  endxClearOnKeyOn := false

/-- A block from its first four bytes, the rest 0. -/
def blockOf (b0 b1 b2 b3 : Byte) : Block := fun j => [b0, b1, b2, b3].getD j.val 0

/-- The first samples of a block decoded from the history `(l0, l1)`. -/
def samplesOf (l0 l1 : Int) (blk : Block) (k : Nat) : List Int :=
  ((Voice.decodeBlock { Voice.reset with last0 := l0, last1 := l1 } blk).blockSamples.toList.take k).map BitVec.toInt

/-! WellFormed: the check on the two unknown-register rows refuses every offset that is not unknown (R64) -/

theorem test_wellFormed_rdUnknown_refuses_mapped : (Instr.rdUnknown 0x180).wellFormed = false := by decide
theorem test_wellFormed_rdUnknown_refuses_odd : (Instr.rdUnknown 0x185).wellFormed = false := by decide
theorem test_wellFormed_wrUnknown_refuses_mapped : (Instr.wrUnknown 0x1AE 5).wellFormed = false := by decide
theorem test_wellFormed_wrUnknown_refuses_beyond : (Instr.wrUnknown 0x280 5).wellFormed = false := by decide
theorem test_wellFormed_accepts : (Instr.rdUnknown 0x184).wellFormed = true ∧ (Instr.wrUnknown 0x27E 5).wellFormed = true ∧
    (Instr.wrVolL 23 0xFFFF 7).wellFormed = true := by decide

/-! Decoding: each row's word written out from R61 to R63 -/

theorem test_decode_voice_reads :
    reads 0x00000000 = some (.rdVolL 0) ∧ reads 0x01720000 = some (.rdVolR 23) ∧ reads 0x00540000 = some (.rdPitch 5) ∧
    reads 0x00160000 = some (.rdSaddr 1) ∧ reads 0x00F80000 = some (.rdAdsrLo 15) ∧ reads 0x010A0000 = some (.rdAdsrHi 16) ∧
    reads 0x000C0000 = some (.rdAdsrVol 0) ∧ reads 0x000EFFFF = some (.rdRaddr 0) := by decide

theorem test_decode_voice_writes :
    reads 0x20103FFF { tSync := 9 } = some (.wrVolL 1 0x3FFF 9) ∧ reads 0x20124000 = some (.wrVolR 1 0x4000 0) ∧
    reads 0x20041000 = some (.wrPitch 0 0x1000 0) ∧ reads 0x20060200 = some (.wrSaddr 0 0x200 0) ∧
    reads 0x2008288E = some (.wrAdsrLo 0 0x288E 0) ∧ reads 0x200A1F00 = some (.wrAdsrHi 0 0x1F00 0) ∧
    reads 0x217C8000 = some (.wrAdsrVol 23 0x8000 0) ∧ reads 0x217E1234 { tSync := 1 } = some (.wrRaddr 23 0x1234 1) := by decide

theorem test_decode_global_reads :
    reads 0x01800000 = some .rdMvolL ∧ reads 0x01820000 = some .rdMvolR ∧ reads 0x01880000 = some .rdKonLo ∧
    reads 0x018A0000 = some .rdKonHi ∧ reads 0x018C0000 = some .rdKoffLo ∧ reads 0x018E0000 = some .rdKoffHi ∧
    reads 0x01980000 = some .rdEonLo ∧ reads 0x019A0000 = some .rdEonHi ∧ reads 0x019C0000 = some .rdEndxLo ∧
    reads 0x019E0000 = some .rdEndxHi ∧ reads 0x01A40000 = some .rdIrqAddr ∧ reads 0x01A60000 = some .rdTaddr ∧
    reads 0x01A80000 = some .rdTdata ∧ reads 0x01AA0000 = some .rdSpucnt ∧ reads 0x01AE0000 = some .rdSpustat ∧
    reads 0x01900000 = some (.rdUnknown 0x190) ∧ reads 0x027E0000 = some (.rdUnknown 0x27E) := by decide

theorem test_decode_global_writes :
    reads 0x21801111 { tSync := 2 } = some (.wrMvolL 0x1111 2) ∧ reads 0x21821111 = some (.wrMvolR 0x1111 0) ∧
    reads 0x21880001 = some (.wrKonLo 1 0) ∧ reads 0x218AFF01 = some (.wrKonHi 0xFF01 0) ∧
    reads 0x218C0001 = some (.wrKoffLo 1 0) ∧ reads 0x218E0001 = some (.wrKoffHi 1 0) ∧
    reads 0x219800FF = some (.wrEonLo 0xFF 0) ∧ reads 0x219A00FF { tSync := 3 } = some (.wrEonHi 0xFF 3) ∧
    reads 0x219CFFFF = some (.wrEndxLo 0xFFFF) ∧ reads 0x219E0001 = some (.wrEndxHi 1) ∧
    reads 0x21A40004 = some (.wrIrqAddr 4) ∧ reads 0x21A6FFFF = some (.wrTaddr 0xFFFF) ∧
    reads 0x21A8A1A0 = some (.wrTdata 0xA1A0) ∧ reads 0x21AA8040 = some (.wrSpucnt 0x8040) ∧
    reads 0x21AEFFFF = some (.wrSpustat 0xFFFF) ∧ reads 0x21901234 = some (.wrUnknown 0x190 0x1234) ∧
    reads 0x21840005 = some (.wrUnknown 0x184 5) := by decide

theorem test_decode_control :
    reads 0x40000000 { count := 3 } = some (.dmaRead 3) ∧ reads 0x60000000 { words := [0x44332211] } = some (.dmaWrite [0x44332211]) ∧
    reads 0x80000000 { ticks := 0x5A00 } = some (.execute 0x5A00) ∧
    reads 0xA0000000 { left := 30000, right := -30000 } = some (.cdPush 30000 (-30000)) ∧ reads 0xC0000000 = some .reset := by decide

/-- Z2 to Z6, and each clause of R66 by its name. -/
theorem test_decode_refusals :
    refuses 0xE0000000 = some .reservedKind ∧ refuses 0x21AB0000 = some .oddOffset ∧ refuses 0x22800000 = some .offsetBeyondWindow ∧
    refuses 0x84000000 = some .zeroFieldSet ∧ refuses 0x80000001 = some .controlBitsSet ∧ refuses 0x40010000 = some .controlBitsSet ∧
    refuses 0x03FE0000 = some .offsetBeyondWindow ∧ refuses 0x00010000 = some .oddOffset := by decide

/-- The encoder writes the words of 95_test_vectors.md section 3. -/
theorem test_encode_words :
    (encode (.wrSpucnt 0x8000)).word = 0x21AA8000 ∧ (encode (.wrSaddr 1 0x100 0)).word = 0x20160100 ∧
    (encode (.rdAdsrVol 0)).word = 0x000C0000 ∧ (encode (.dmaWrite [7])).word = 0x60000000 ∧ (encode .reset).word = 0xC0000000 ∧
    (encode (.cdPush 1 1)).payload = { left := 1, right := 1 } := by decide

/-- W11: a 32-bit store is two transactions, the low half first (R72). -/
theorem test_wr32 : Request.wr32 0x188 0x00010002 = [Request.wr 0x188 2, Request.wr 0x18A 1] := by decide

/-! Register reads -/

theorem test_rd_voice :
    goes (.rdVolL 0) (withVoice voice18) (·.reply == .half 1) && goes (.rdVolR 0) (withVoice voice18) (·.reply == .half 2) &&
    goes (.rdPitch 0) (withVoice voice18) (·.reply == .half 3) && goes (.rdSaddr 0) (withVoice voice18) (·.reply == .half 4) &&
    goes (.rdAdsrLo 0) (withVoice voice18) (·.reply == .half 5) && goes (.rdAdsrHi 0) (withVoice voice18) (·.reply == .half 6) &&
    goes (.rdAdsrVol 0) (withVoice voice18) (·.reply == .half 7) && goes (.rdRaddr 0) (withVoice voice18) (·.reply == .half 8) &&
    goes (.rdRaddr 1) (withVoice voice18) (·.reply == .half 0) := by decide

theorem test_rd_global :
    goes .rdMvolL globals (·.reply == .half 0x1111) && goes .rdMvolR globals (·.reply == .half 0x2222) &&
    goes .rdKonLo globals (·.reply == .half 0x4444) && goes .rdKonHi globals (·.reply == .half 0x3333) &&
    goes .rdKoffLo globals (·.reply == .half 0x6666) && goes .rdKoffHi globals (·.reply == .half 0x5555) &&
    goes .rdEonLo globals (·.reply == .half 0x8888) && goes .rdEonHi globals (·.reply == .half 0x7777) &&
    goes .rdEndxLo globals (·.reply == .half 0xCDEF) && goes .rdEndxHi globals (·.reply == .half 0x00AB) &&
    goes .rdIrqAddr globals (·.reply == .half 0x9999) && goes .rdTaddr globals (·.reply == .half 0xAAAA) &&
    goes .rdSpucnt globals (·.reply == .half 0xBBBB) && goes .rdSpustat globals (·.reply == .half 0x0040) := by decide

/-- W10: a TDATA read gives 0xFFFF and code 2. -/
theorem test_rdTdata : goes .rdTdata globals (fun t => t.reply == .half 0xFFFF && t.diags == [.transferDataRead] && t.cursor == 0) := by
  decide

/-- W5: an unknown offset reads 0xFFFF, ignores a write, and logs code 1 for each. -/
theorem test_rdUnknown : goes (.rdUnknown 0x190) globals (fun t => t.reply == .half 0xFFFF && t.diags == [.unknownRegister]) := by decide
theorem test_wrUnknown : goes (.wrUnknown 0x190 0x1234) globals (fun t => t.reply == .none && t.diags == [.unknownRegister]) := by decide

/-! Register writes -/

/-- Each voice write stores into its own register (the voice is Off, so nothing is caught up: W3). -/
theorem test_wr_voice :
    goes (.wrVolL 0 9 0x300) (withVoice voice18) (fun t => t.voice 0 == { voice18 with volumeLeft := 9 } && t.ticksCarry == 0) &&
    goes (.wrVolR 0 9 0) (withVoice voice18) (fun t => t.voice 0 == { voice18 with volumeRight := 9 }) &&
    goes (.wrPitch 0 9 0) (withVoice voice18) (fun t => t.voice 0 == { voice18 with sampleRate := 9 }) &&
    goes (.wrSaddr 0 9 0) (withVoice voice18) (fun t => t.voice 0 == { voice18 with startAddress := 9 }) &&
    goes (.wrAdsrLo 0 9 0) (withVoice voice18) (fun t => t.voice 0 == { voice18 with adsrLow := 9 }) &&
    goes (.wrAdsrHi 0 9 0) (withVoice voice18) (fun t => t.voice 0 == { voice18 with adsrHigh := 9 }) &&
    goes (.wrAdsrVol 0 9 0) (withVoice voice18) (fun t => t.voice 0 == { voice18 with adsrVolume := 9 }) &&
    goes (.wrRaddr 0 9 0) (withVoice voice18) (fun t => t.voice 0 == { voice18 with repeatAddress := 9 }) := by decide +kernel

/-- W1: the catch-up runs at the old rate, then the new rate is stored. -/
theorem test_wrPitch_synchronized :
    goes (.wrPitch 0 0x2000 0x300) playing
      (fun t => (t.voice 0).counter == 0x1000 && (t.voice 0).adsrVolume == 6 && (t.voice 0).sampleRate == 0x2000) = true := by
  decide +kernel

theorem test_wr_main_volume_and_reverb :
    goes (.wrMvolL 9 0x301) globals (fun t => t.mainVolL == 9 && t.mainVolR == 0x2222 && t.ticksCarry == 1) &&
    goes (.wrMvolR 9 0) globals (fun t => t.mainVolR == 9 && t.mainVolL == 0x1111) &&
    goes (.wrEonLo 0x00FF 0) globals (·.eon == 0x777700FF) && goes (.wrEonHi 0x00FF 0) globals (·.eon == 0x00FF8888) := by
  decide +kernel

/-- W4: bits 15:8 of the high half trigger nothing, bit 0 starts voice 16. -/
theorem test_wrKonHi : goes (.wrKonHi 0xFF01 0) State.reset (fun t => t.kon == 0xFF010000 && (t.voice 16).phase == .attack &&
    (t.voice 17).phase == .off && (t.voice 0).phase == .off) = true := by decide +kernel

/-- The re-trigger of 95_test_vectors.md section 1.8: a set KON bit written 1 again starts the voice again. -/
theorem test_wrKonLo_retrigger :
    goes (.wrKonLo 1 0) (withVoice { keyed with adsrVolume := 180, startAddress := 5 } { State.reset with kon := 1 })
      (fun t => (t.voice 0).adsrVolume == 0 && (t.voice 0).currentAddress == 5 && t.kon == 1) = true := by decide +kernel

/-- W9: KeyOff in Attack enters Release with one tick and step -16384. -/
theorem test_wrKoffLo : goes (.wrKoffLo 1 0) (withVoice keyed)
    (fun t => (t.voice 0).phase == .release && (t.voice 0).adsrTicks == 1 && (t.voice 0).adsrStep == -16384) = true := by decide +kernel

theorem test_wrKoffHi : goes (.wrKoffHi 0x0001 0) (State.reset.setVoice 16 keyed)
    (fun t => (t.voice 16).phase == .release && t.koff == 0x00010000) = true := by decide +kernel

/-- W6, W8: the ignored writes. -/
theorem test_ignored_writes :
    goes (.wrEndxLo 0xFFFF) globals (·.endx == 0x00ABCDEF) && goes (.wrEndxHi 0) globals (·.endx == 0x00ABCDEF) &&
    goes (.wrSpustat 0) globals (·.irq9Flag) := by decide

theorem test_wrIrqAddr : goes (.wrIrqAddr 4) globals (fun t => t.irqAddr == 4 && t.taddr == 0xAAAA) = true := by decide

/-- T1. -/
theorem test_wrTaddr : goes (.wrTaddr 0xFFFF) State.reset (fun t => t.taddr == 0xFFFF && t.cursor == 0x7FFF8) = true := by decide

/-- P2's fourth and fifth halfword: the low byte first, and the cursor past the end of the RAM. -/
theorem test_wrTdata_wraps :
    goes (.wrTdata 0xA7A6) { State.reset with cursor := 0x7FFFE }
      (fun t => t.ram == [(0x7FFFE, 0xA6), (0x7FFFF, 0xA7)] && t.cursor == 0) = true := by decide
theorem test_wrTdata_unlists_zero :
    goes (.wrTdata 0xA900) { State.reset with ram := [(0, 0x99), (1, 0xAA), (2, 0xBB)] }
      (fun t => t.ram == [(1, 0xA9), (2, 0xBB)] && t.cursor == 2) = true := by decide

/-- T2, T4. -/
theorem test_wrSpucnt : goes (.wrSpucnt 0x0020) State.reset (fun t => t.spucnt == 0x0020 && t.dmaRequest) &&
    goes (.wrSpucnt 0x8010) { State.reset with dmaRequest := true } (fun t => t.spucnt == 0x8010 && !t.dmaRequest) = true := by decide

/-! Transfers, Execute, CD push, reset -/

/-- P2: twelve bytes from 0x7FFF8 run on at byte 0. -/
theorem test_dmaWrite_wraps :
    goes (.dmaWrite [0x88776655, 0x44332211, 0xCCBBAA99]) { State.reset with cursor := 0x7FFF8 }
      (fun t => t.ram == [(0, 0x99), (1, 0xAA), (2, 0xBB), (3, 0xCC), (0x7FFF8, 0x55), (0x7FFF9, 0x66), (0x7FFFA, 0x77), (0x7FFFB, 0x88),
        (0x7FFFC, 0x11), (0x7FFFD, 0x22), (0x7FFFE, 0x33), (0x7FFFF, 0x44)] && t.cursor == 4) = true := by decide
/-- T6. -/
theorem test_dmaWrite_nothing : goes (.dmaWrite []) globals (fun t => t == globals) = true := by decide +kernel

theorem test_dmaRead_wraps :
    goes (.dmaRead 2) { State.reset with cursor := 0x7FFFC, ram := [(0, 0x99), (3, 0xCC), (0x7FFFC, 0x11), (0x7FFFF, 0x44)] }
      (fun t => t.reply == .words [0x44000011, 0xCC000099] && t.cursor == 4) = true := by decide
/-- T7. -/
theorem test_dmaRead_nothing : goes (.dmaRead 0) globals (fun t => t.reply == .words [] && t.cursor == 0) = true := by decide

/-- X1, on the CD path alone (P4): two samples, then one tick over. -/
theorem test_execute_cd :
    goes (.execute 0x601) { State.reset with spucnt := 1, cdFifo := [⟨30000, -30000⟩] }
      (fun t => t.frames == [⟨30000, -30000⟩, ⟨0, 0⟩] && t.ticksCarry == 1 && t.cdFifo == []) = true := by decide +kernel
/-- Scenario 5, sample 1: the fetch at address 0 with IRQ_ADDR = 1 raises the flag; the level climbs by 6. -/
theorem test_execute_irq :
    goes (.execute 0x300) playing (fun t => t.irq9Flag && t.irqEvents == [.rise] && (t.voice 0).adsrVolume == 6 &&
      (t.voice 0).counter == 0x1000) = true := by decide +kernel

/-- F1. -/
theorem test_cdPush_overflow :
    (fun t : State => t.cdFifo == [⟨2, 2⟩, ⟨3, 3⟩] && t.diags == [.cdFifoOverflow])
      (cdPush testParams ⟨3, 3⟩ { State.reset with cdFifo := [⟨1, 1⟩, ⟨2, 2⟩] }) = true := by decide
theorem test_cdPush_empty : goes (.cdPush 1 2) State.reset (fun _ => true) = true := by decide

/-- Z1: reset clears the block and keeps the output history. -/
theorem test_reset : goes .reset { globals with frames := [⟨1, 2⟩], ram := [(0x1001, 7)] }
    (fun t => t == { State.reset with frames := [⟨1, 2⟩] }) = true := by decide +kernel

/-! Operations on the vectors of 95_test_vectors.md section 2 -/

/-- A1, A3, A5, A7, A9. -/
theorem test_adpcm :
    samplesOf 0 0 (blockOf 0x00 0 0x87 0) 3 = [28672, -32768, 0] ∧ samplesOf 0 0 (blockOf 0x0F 0 0x78 0) 2 = [-1, 0] ∧
    samplesOf 1000 0 (blockOf 0x1C 0 0 0) 4 = [938, 879, 824, 773] ∧ samplesOf (-1) 0 (blockOf 0x2C 0 0 0) 6 = [-1, 0, 1, 2, 3, 4] ∧
    samplesOf 0 0 (fun j => if j.val = 0 then 0x40 else 0x77) 3 = [28672, 32767, 32767] := by decide +kernel
/-- A9: the history is not clamped. -/
theorem test_adpcm_history :
    (Voice.decodeBlock Voice.reset (fun j => if j.val = 0 then 0x40 else 0x77)).last0 = 861324 ∧
    (Voice.decodeBlock Voice.reset (fun j => if j.val = 0 then 0x40 else 0x77)).last1 = 927480 := by decide +kernel

/-- G1 to G3, G5 with the declared test table. -/
theorem test_interpolate :
    Voice.interpolate testParams { Voice.reset with counter := 0x1000, blockSamples := Voice.reset.blockSamples.set 1 0x7FFF } = 62 ∧
    Voice.interpolate testParams
      { Voice.reset with counter := 0, prevSamples := #v[100, 200, 300], blockSamples := Voice.reset.blockSamples.set 0 400 } = 393 ∧
    Voice.interpolate testParams
      { Voice.reset with counter := 0xFF0, prevSamples := #v[100, 200, 300], blockSamples := Voice.reset.blockSamples.set 0 400 } = 589 ∧
    Voice.interpolate testParams { Voice.reset with counter := 0x3000, blockSamples := Vector.replicate 28 0x7FFF } = -902 := by
  decide +kernel

/-- V1 to V8. -/
theorem test_volume :
    applyVolume (-32767) 32767 = -32767 ∧ applyVolume (-1) 1 = -1 ∧ applyVolume 1 1 = 0 ∧ applyVolume (-32768) (-32768) = 32768 ∧
    decodeVolume testParams 0 0x3FFF = 32766 ∧ decodeVolume testParams 0 0x4000 = -32768 ∧ decodeVolume testParams 0 0x7FFF = -2 ∧
    decodeVolume testParams 0 1 = 2 := by decide

/-- Two cells of each row of the table of 95_test_vectors.md section 2.4. -/
theorem test_enterPhase :
    (Voice.enterPhase { Voice.reset with adsrLow := 0xFFFF } .attack).adsrTicks = 0x100000 ∧
    (Voice.enterPhase { Voice.reset with adsrLow := 0xFFFF } .decay).target = ⟨0x8000, 0, 15, true, true⟩ ∧
    (Voice.enterPhase { Voice.reset with adsrHigh := 0x4000 } .sustain).target = ⟨-1, 0, 0, true, false⟩ ∧
    (Voice.enterPhase { Voice.reset with adsrHigh := 0x002B } .release).adsrStep = -8 ∧
    (Voice.enterPhase { Voice.reset with adsrLow := 0x288E } .decay).adsrStep = -64 := by decide

/-- E1, E2, E5, E6. -/
theorem test_tickAdsr :
    (Voice.tickAdsr { keyed with adsrVolume := 0x7FFC }).phase = .decay ∧
    (Voice.tickAdsr { keyed with adsrVolume := 0x7FFC }).adsrVolume = 0x7FFF ∧
    (Voice.tickAdsr (Voice.enterPhase { Voice.reset with adsrLow := 0x000F, adsrVolume := 0x7FFF } .decay)).phase = .sustain ∧
    (Voice.tickAdsr keyed.keyOff).phase = .off ∧
    (Voice.tickAdsr (Voice.enterPhase { Voice.reset with adsrHigh := 0x4000, adsrVolume := 100 } .sustain)).phase = .sustain := by decide

/-- Q1 to Q8. -/
theorem test_irqMatches :
    irqMatches 1 0 = true ∧ irqMatches 1 1 = true ∧ irqMatches 1 2 = false ∧ irqMatches 0 0xFFFF = false ∧
    irqMatches 0xFFFF 0xFFFE = true ∧ irqMatches 0xFFFF 0xFFFF = true := by decide

/-! The first step after a table word is placed -/

theorem test_step_from_reset :
    (match step (State.reset.withFetchWord 32 0x21AA0030) with
      | .next t => t.spucnt == 0x0030 && t.dmaRequest && t.inbox == []
      | _ => false) = true := by decide

/-! Witnesses: for each statement with hypotheses, a case that meets them together, at the boundaries of each clause -/

/-- The state `playing` after 0x300 ticks, and whatever else an `exec` of it answers: a next state to speak about. -/
def after (i : Instr) (s : State) : State :=
  match exec i s with
  | .next t => t
  | _ => s

/-- `after` is the state `exec` answers. -/
theorem exec_after (i : Instr) (s : State) : exec i s = .next (after i s) := by cases i <;> rfl

theorem test_witness_DecodeOfEncodeIsTheTransaction :
    (Instr.wrUnknown 0x1B0 5).wellFormed = true ∧ (Instr.rdUnknown 0x196).wellFormed = true ∧ (Instr.wrKonHi 0xFFFF 768).wellFormed = true := by
  decide

theorem test_witness_EncodeOfDecodedRestoresTheWord :
    decode { word := 0x0000BEEF } = .ok (.rdVolL 0) ∧ kindField 0x0000BEEF = 0#3 ∧ (encode (.rdVolL 0)).word = 0 ∧
    decode { word := 0x21AABEEF } = .ok (.wrSpucnt 0xBEEF) ∧ kindField 0x21AABEEF ≠ 0#3 := ⟨rfl, by decide, by decide, rfl, by decide⟩

theorem test_witness_DecodedTransactionsAreWellFormed :
    decode { word := 0x01840000 } = .ok (.rdUnknown 0x184) ∧ decode { word := 0x227E0001 } = .ok (.wrUnknown 0x27E 1) := ⟨rfl, rfl⟩

/-- One word for each clause of R66, and accepted words beside its borders. -/
theorem test_witness_RefusedWordsAreExactlyThoseOfTheRule :
    ({ State.reset with inbox := [{ word := 0xE0000000 }] }).inbox = { word := 0xE0000000 } :: [] ∧ kindField 0xE0000000 = 7#3 ∧
    zeroField 0x84000000 ≠ 0#3 ∧ (kindField 0x21AB0000 = 1#3 ∧ (offField 0x21AB0000).toNat % 2 = 1) ∧
    (kindField 0x02800000 = 0#3 ∧ 0x280 ≤ (offField 0x02800000).toNat) ∧
    (kindField 0x80000001 = 4#3 ∧ (0x80000001 : Word).extractLsb' 0 26 ≠ 0#26) ∧
    (zeroField 0x027E0000 = 0#3 ∧ isUnknownOffset (offField 0x027E0000) = true ∧ kindField 0x027E0000 = 0#3) ∧
    (zeroField 0x21840005 = 0#3 ∧ isUnknownOffset (offField 0x21840005) = true ∧ kindField 0x21840005 = 1#3) := by
  refine ⟨rfl, ?_⟩; decide

theorem test_witness_StepRunsTheDecodedTransaction :
    ({ playing with inbox := [Request.rd 0x0C, Request.rd 0x00] }).inbox = Request.rd 0x0C :: [Request.rd 0x00] ∧
    decode (Request.rd 0x0C) = .ok (.rdAdsrVol 0) ∧ decodeTableWord 32 0xC0000000 = some .reset ∧ playing.inbox = [] :=
  ⟨rfl, rfl, rfl, rfl⟩

/-- A state within the invariant with RAM contents, a raised IRQ flag, a DMA mode, a diagnostic and an on voice. -/
def busy : State :=
  withVoice keyed
    { State.reset with spucnt := 0x8065, dmaRequest := true, ram := [(0, 7), (0x7FFFF, 9)], cursor := 0x7FFFE, irq9Flag := true,
                       irqEvents := [.rise], diags := [.cdFifoOverflow], endx := 0x00800001, ticksCarry := 0x2FF, irqAddr := 3,
                       inbox := [encode (.execute 1)], frames := [⟨5, 6⟩] }

theorem keyed_inv : keyed.Inv :=
  ⟨by decide, by decide, by decide, by decide, by decide, by decide, by decide⟩

theorem voiceReset_inv : Voice.reset.Inv :=
  ⟨by decide, by decide, by decide, by decide, by decide, by decide, by decide⟩

theorem test_witness_StepKeepsTheInvariant : busy.Inv ∧ step busy = .next (after (.execute 1) { busy with inbox := [] }) := by
  refine ⟨⟨by decide, by decide, by decide, Nat.zero_le _, by decide, by decide, by decide, by decide, ?_⟩, rfl⟩
  intro v
  by_cases h : v = 0
  · subst h; exact keyed_inv
  · have : busy.voice v = Voice.reset := by revert h; revert v; decide
    rw [this]; exact voiceReset_inv

theorem test_witness_OutputHistoryOnlyGrows :
    exec (.execute 1) busy = .next (after (.execute 1) busy) ∧ (after (.execute 1) busy).frames.length = 2 ∧
    (after .rdTdata busy).diags = [.cdFifoOverflow, .transferDataRead] := ⟨exec_after _ _, by decide +kernel, by decide⟩

/-- The flag rises in `playing`, stays up in `busy`, and RESET drops it. -/
theorem test_witness_IrqFlagIsStickyAndEachRiseIsRecorded :
    exec (.execute 0x300) playing = .next (after (.execute 0x300) playing) ∧ playing.irq9Flag = false ∧
    (after (.execute 0x300) playing).irq9Flag = true ∧ (Instr.execute 0x300) ≠ .reset ∧ busy.irq9Flag = true ∧
    (after .reset busy).irq9Flag = false := ⟨exec_after _ _, rfl, by decide +kernel, by decide, rfl, by decide⟩

theorem test_witness_RamChangesOnlyByTransfers :
    exec (.execute 1) busy = .next (after (.execute 1) busy) ∧ (∀ d, Instr.execute 1 ≠ .wrTdata d) ∧
    (∀ ws, Instr.execute 1 ≠ .dmaWrite ws) ∧ Instr.execute 1 ≠ .reset ∧ busy.readByte 0x7FFFF = 9 :=
  ⟨exec_after _ _, by simp, by simp, by simp, by decide⟩

/-- One transaction that is none of the writes named, so every clause applies, for the last voice too. -/
theorem test_witness_HostOnlyRegistersChangeOnlyByTheirOwnWrites :
    exec (.dmaRead 2) globals = .next (after (.dmaRead 2) globals) ∧ Instr.dmaRead 2 ≠ .reset ∧
    (∀ d, Instr.dmaRead 2 ≠ .wrSpucnt d) ∧ (∀ d n, Instr.dmaRead 2 ≠ .wrMvolL d n) ∧ (∀ d n, Instr.dmaRead 2 ≠ .wrMvolR d n) ∧
    (∀ d n, Instr.dmaRead 2 ≠ .wrKonLo d n) ∧ (∀ d n, Instr.dmaRead 2 ≠ .wrKonHi d n) ∧ (∀ d n, Instr.dmaRead 2 ≠ .wrKoffLo d n) ∧
    (∀ d n, Instr.dmaRead 2 ≠ .wrKoffHi d n) ∧ (∀ d n, Instr.dmaRead 2 ≠ .wrEonLo d n) ∧ (∀ d n, Instr.dmaRead 2 ≠ .wrEonHi d n) ∧
    (∀ d, Instr.dmaRead 2 ≠ .wrTaddr d) ∧ (∀ d, Instr.dmaRead 2 ≠ .wrIrqAddr d) ∧ (∀ d n, Instr.dmaRead 2 ≠ .wrVolL 23 d n) ∧
    (∀ d n, Instr.dmaRead 2 ≠ .wrVolR 23 d n) ∧ (∀ d n, Instr.dmaRead 2 ≠ .wrPitch 23 d n) ∧ (∀ d n, Instr.dmaRead 2 ≠ .wrSaddr 23 d n) ∧
    (∀ d n, Instr.dmaRead 2 ≠ .wrAdsrLo 23 d n) ∧ (∀ d n, Instr.dmaRead 2 ≠ .wrAdsrHi 23 d n) := by
  refine ⟨exec_after _ _, ?_⟩; simp

theorem test_witness_EndxBitsAreClearedOnlyByResetOrKeyOn :
    exec (.wrKonHi 0x80 0) busy = .next (after (.wrKonHi 0x80 0) busy) ∧ Instr.wrKonHi 0x80 0 ≠ .reset ∧ busy.endx.getLsbD 23 = true ∧
    (23 - 16 < 16 ∧ (0x80 : Half).getLsbD (23 - 16) = true) ∧ exec (.wrKonLo 1 0) busy = .next (after (.wrKonLo 1 0) busy) ∧
    busy.endx.getLsbD 0 = true := ⟨exec_after _ _, by decide, by decide, by decide, exec_after _ _, by decide⟩

theorem test_witness_TransferControlAndUnknownReads :
    isUnknownOffset 0x184 = true ∧ isUnknownOffset 0x186 = true ∧ isUnknownOffset 0x190 = true ∧ isUnknownOffset 0x196 = true ∧
    isUnknownOffset 0x1A0 = true ∧ isUnknownOffset 0x1A2 = true ∧ isUnknownOffset 0x1AC = true ∧ isUnknownOffset 0x1B0 = true ∧
    isUnknownOffset 0x27E = true := by decide

/-- Voice 0 of `playing` is on, voice 1 is Off. -/
theorem test_witness_VoiceRegisterWritesStoreAfterTheCatchUp :
    (playing.voice 0).phase ≠ .off ∧ exec (.execute 0x300) playing = .next (after (.execute 0x300) playing) ∧
    (playing.voice 1).phase = .off := ⟨by decide, exec_after _ _, by decide⟩

/-- The lowest and the highest voice of each half are named and an unnamed bit names none. -/
theorem test_witness_KeyOnWritesMergeAndStartTheirVoices :
    ((0 : VoiceId).val < 16 ∧ (0x8001 : Half).getLsbD 0 = true) ∧ ((15 : VoiceId).val < 16 ∧ (0x8001 : Half).getLsbD 15 = true) ∧
    (16 ≤ (16 : VoiceId).val ∧ (0x0081 : Half).getLsbD (16 - 16) = true) ∧
    (16 ≤ (23 : VoiceId).val ∧ (0x0081 : Half).getLsbD (23 - 16) = true) := by decide

theorem test_witness_KeyOffWritesMergeAndReleaseTheirVoices :
    goes (.wrKoffLo 0x8001 0) (State.reset.setVoice 15 keyed) (fun t => (t.voice 15).phase == .release && (t.voice 0).phase == .off) &&
    goes (.wrKoffHi 0x0081 0) (State.reset.setVoice 23 keyed) (fun t => (t.voice 23).phase == .release && (t.voice 16).phase == .off) = true := by
  decide +kernel

theorem test_witness_IgnoredWritesAndIrqAddressWrite : isUnknownOffset 0x184 = true ∧ isUnknownOffset 0x27E = true := by decide

/-- The premises of the second part for an on voice and for an Off one. -/
theorem test_witness_SynchronizedWriteIsExecuteThenWrite :
    exec (.execute 0x300) playing = .next (after (.execute 0x300) playing) ∧ (playing.voice 0).phase ≠ .off ∧
    (playing.voice 1).phase = .off ∧ ((playing.voice 1).phase = .off → playing = playing) :=
  ⟨exec_after _ _, by decide, by decide, fun _ => rfl⟩

/-- The cursor at the last even byte: both stored bytes and an untouched one. -/
theorem test_witness_TransferDataWriteStoresTwoBytesAtTheCursor :
    busy.ram.wf = true ∧ busy.cursor.toNat = 0x7FFFE ∧ (busy.cursor.toNat + 1) % 0x80000 = 0x7FFFF ∧
    (after (.wrTdata 0xA1A0) busy).readByte 0x7FFFE = 0xA0 ∧ (after (.wrTdata 0xA1A0) busy).readByte 0x7FFFF = 0xA1 ∧
    (after (.wrTdata 0xA1A0) busy).readByte 0 = 7 ∧ (after (.wrTdata 0xA1A0) busy).cursor = 0 := by decide

/-- The last stored byte, the first byte after it, and the byte before the cursor. -/
theorem test_witness_DmaWriteStoresItsWordsAtTheCursor :
    busy.ram.wf = true ∧ 4 * [(0x44332211 : Word)].length ≤ 0x80000 ∧ (3 / 4 < [(0x44332211 : Word)].length) ∧
    ¬ (4 / 4 < [(0x44332211 : Word)].length) ∧ (after (.dmaWrite [0x44332211]) busy).readByte (0x7FFFE + 3) = 0x44 ∧
    (after (.dmaWrite [0x44332211]) busy).readByte (0x7FFFE + 4) = 0 ∧
    (after (.dmaWrite [0x44332211]) busy).readByte (0x7FFFE + 0x7FFFF) = busy.readByte (0x7FFFE + 0x7FFFF) ∧
    [(1 : Word), 2] = [1] ++ [2] ∧ exec (.dmaWrite [1]) busy = .next (after (.dmaWrite [1]) busy) := by
  refine ⟨by decide, by decide, by decide, by decide, by decide, by decide, by decide, by decide, exec_after _ _⟩

theorem test_witness_DmaReadReturnsTheWordsAtTheCursor :
    goes (.dmaRead 2) busy (fun t => t.reply == .words [0x00070900, 0] && t.cursor == 6) = true := by decide

theorem test_witness_DmaReadReturnsWhatDmaWriteStored :
    busy.ram.wf = true ∧ 4 * [(1 : Word), 2].length ≤ 0x80000 ∧ exec (.dmaWrite [1, 2]) busy = .next (after (.dmaWrite [1, 2]) busy) :=
  ⟨by decide, by decide, exec_after _ _⟩

theorem test_witness_CursorMovesOnlyByTransfersTaddrAndReset :
    exec (.wrTdata 5) busy = .next (after (.wrTdata 5) busy) ∧ (after (.wrTdata 5) busy).cursor.toNat = 0 ∧
    exec (.dmaWrite [1]) busy = .next (after (.dmaWrite [1]) busy) ∧ (after (.dmaWrite [1]) busy).cursor.toNat = 2 ∧
    exec (.dmaRead 1) busy = .next (after (.dmaRead 1) busy) ∧ exec .rdTdata busy = .next (after .rdTdata busy) ∧
    (∀ d, Instr.rdTdata ≠ .wrTdata d) ∧ (∀ ws, Instr.rdTdata ≠ .dmaWrite ws) ∧ (∀ n, Instr.rdTdata ≠ .dmaRead n) ∧
    (∀ d, Instr.rdTdata ≠ .wrTaddr d) ∧ Instr.rdTdata ≠ .reset :=
  ⟨exec_after _ _, by decide, exec_after _ _, by decide, exec_after _ _, exec_after _ _, by simp, by simp, by simp, by simp, by simp⟩

theorem test_witness_TransferModeGatesNoTransfer :
    exec (.wrTdata 5) busy = .next (after (.wrTdata 5) busy) ∧ exec (.dmaWrite [1]) busy = .next (after (.dmaWrite [1]) busy) ∧
    exec (.dmaRead 1) busy = .next (after (.dmaRead 1) busy) ∧ busy.spucnt ≠ 0 :=
  ⟨exec_after _ _, exec_after _ _, exec_after _ _, by decide⟩

theorem test_witness_KeyOffReleasesAnOnVoice : (playing.voice 1).phase = .off ∧ (playing.voice 0).phase ≠ .off := by decide

theorem test_witness_KeyOnOrderIsUnobservable : (3 : VoiceId) ≠ 20 := by decide

/-- Shifts below, at and above 11. -/
theorem test_witness_EnterPhaseDerivesTheTableParameters :
    (keyed.enterPhase .attack).target.shift = 10 ∧ (Voice.enterPhase { keyed with adsrHigh := 0x0B } .release).target.shift = 11 ∧
    (Voice.enterPhase { keyed with adsrHigh := 0x0C } .release).target.shift = 12 ∧
    (Voice.enterPhase { keyed with adsrHigh := 0x0C } .release).adsrTicks = 2 := by decide

/-- Each clause: a count above 1, and at 1 each phase that has reached its level, one that has not, and Sustain. -/
theorem test_witness_EnvelopeTickFollowsTheRecurrence :
    (let w := Voice.enterPhase { keyed with adsrHigh := 0x0C } .release; w.phase ≠ .off ∧ w.adsrTicksRemaining ≠ 1#32) ∧
    (let a := { keyed with adsrVolume := 0x7FFF }; a.phase = .attack ∧ a.adsrTicksRemaining = 1#32 ∧ a.target.decreasing = false ∧
      a.target.level ≤ min (max (a.adsrVolume.toInt + a.adsrStep) 0) 0x7FFF) ∧
    (keyed.phase = .attack ∧ keyed.adsrTicksRemaining = 1#32 ∧
      ¬ keyed.target.level ≤ min (max (keyed.adsrVolume.toInt + keyed.adsrStep) 0) 0x7FFF) ∧
    (let d := keyed.enterPhase .decay; d.phase = .decay ∧ d.adsrTicksRemaining = 1#32 ∧ d.target.decreasing = true ∧
      min (max (d.adsrVolume.toInt + d.adsrStep) 0) 0x7FFF ≤ d.target.level) ∧
    (let r := keyed.enterPhase .release; r.phase = .release ∧ r.adsrTicksRemaining = 1#32 ∧
      min (max (r.adsrVolume.toInt + r.adsrStep) 0) 0x7FFF ≤ r.target.level) ∧
    (let u := Voice.enterPhase Voice.reset .sustain; u.phase = .sustain ∧ u.adsrTicksRemaining = 1#32) := by decide

theorem test_witness_SlowAttackClimbsBySixAndPeaksAtTick5462 : keyed.adsrLow.toNat / 2 ^ 8 % 2 ^ 7 = 0x28 := by decide

theorem test_witness_FilterZeroSamplesAreTheQuantizedNibbles : ((blockOf 0x0C 0 0x87 0) 0).toNat / 16 % 8 = 0 := by decide

/-- A voice with samples, one without, and a block with and one without `loop_start`. -/
theorem test_witness_FetchReadsDecodesAndLatchesTheRepeatAddress :
    ((withVoice { keyed with hasSamples := true }).voice 0).hasSamples = true ∧ (busy.voice 0).hasSamples = false ∧
    ({ busy with ram := [(1, 4)] } : State).readByte (8 * (busy.voice 0).currentAddress.toNat + 1) = 4 ∧ busy.readByte 1 = 0 := by decide

/-- The highest counter with the fastest rate passes the block; a counter of 0 does not. -/
theorem test_witness_CounterStepsByTheClampedRateModuloTheBlock :
    (let x := { keyed with counter := 0x1BFFF, sampleRate := 0xFFFF }
     x.counter.toNat < 0x1C000 ∧ ¬ x.counter.toNat + min x.sampleRate.toNat 0x4000 < 0x1C000) ∧
    (keyed.counter.toNat < 0x1C000 ∧ keyed.counter.toNat + min keyed.sampleRate.toNat 0x4000 < 0x1C000) := by decide

/-- Sample indices 27 and 28, and each of the three flag combinations. -/
theorem test_witness_BlockEndFollowsTheLoopFlags :
    sampleIndex 0x1BFFF = 27 ∧ 28 ≤ sampleIndex 0x1C000 ∧ (blockFlagsOf (blockOf 0 0x00 0 0)).loopEnd = false ∧
    ((blockFlagsOf (blockOf 0 0x07 0 0)).loopEnd = true ∧ (blockFlagsOf (blockOf 0 0x07 0 0)).loopRepeat = true) ∧
    ((blockFlagsOf (blockOf 0 0x05 0 0)).loopEnd = true ∧ (blockFlagsOf (blockOf 0 0x05 0 0)).loopRepeat = false) := by decide

theorem test_witness_OffVoiceIsSilentAndUnchanged : (playing.voice 1).phase = .off := by decide

theorem test_witness_SamplingOneVoiceLeavesTheOthersAlone :
    (1 : VoiceId) ≠ 0 ∧ 23 ≠ (0 : VoiceId).val ∧ busy.endx.getLsbD (0 : VoiceId).val = true := by decide

theorem test_witness_InterpolationIsTheFourTapSum :
    (0x1BFFF#32).toNat / 2 ^ 12 % 2 ^ 5 < 28 ∧ (0#32).toNat / 2 ^ 12 % 2 ^ 5 < 28 := by decide

/-- An on voice with both volumes fixed, parameters with the default decoding, and a voice with a volume in sweep mode. -/
theorem test_witness_OnVoiceContributionIsItsScaledSample :
    (∀ x : Half, x.getLsbD 15 = false → testParams.decodeVolume x = defaultDecodeVolume x) ∧ (playing.voice 0).phase ≠ .off ∧ ((advanceVoice 0 playing).voice 0).volumeLeft.getLsbD 15 = false ∧
    ((advanceVoice 0 (withVoice { keyed with volumeRight := 0x7FFF })).voice 0).volumeRight.getLsbD 15 = false ∧
    ((advanceVoice 0 (withVoice { keyed with volumeLeft := 0x8000 })).voice 0).volumeLeft.getLsbD 15 = true := by
  refine ⟨fun _ _ => rfl, ?_⟩; decide +kernel

theorem test_witness_LoneVoiceFrameIsItsClampedPair :
    playing.spucnt.getLsbD 15 = true ∧ playing.spucnt.getLsbD 0 = false ∧ ∀ u, u ≠ 0 → (playing.voice u).phase = .off := by decide

/-- Both enables 1: each of the two kinds of sample has its case, and samples are generated. -/
theorem test_witness_ExecuteEmitsOneFrameForEachSample :
    playing.spucnt.getLsbD 15 = true ∧ ({ State.reset with spucnt := 1 }).spucnt.getLsbD 0 = true ∧
    2 ≤ (0x5FF + busy.ticksCarry) / 0x300 := by decide

/-- Another SPUCNT with the three named bits as they are and the others flipped. -/
theorem test_witness_MainVolumeReverbAndStoredControlBitsReachNoSample :
    (0xFFFE : Half).getLsbD 15 = playing.spucnt.getLsbD 15 ∧ (0xFFFE : Half).getLsbD 6 = playing.spucnt.getLsbD 6 ∧
    (0xFFFE : Half).getLsbD 0 = playing.spucnt.getLsbD 0 ∧ (0xFFFE : Half) ≠ playing.spucnt ∧
    exec (.execute 0x300) playing = .next (after (.execute 0x300) playing) := ⟨by decide, by decide, by decide, by decide, exec_after _ _⟩

theorem test_witness_ExecuteInTwoPartsIsExecuteOfTheSum : exec (.execute 0x2FF) playing = .next (after (.execute 0x2FF) playing) :=
  exec_after _ _

theorem test_witness_DisabledUnitOnlyMovesTheCarry :
    ({ State.reset with spucnt := 0x7FFE }).spucnt.getLsbD 15 = false ∧ ({ State.reset with spucnt := 0x7FFE }).spucnt.getLsbD 0 = false := by
  decide

/-- One queued frame and two samples: the frame, then silence. -/
theorem test_witness_CdAudioAlonePlaysTheFifoThenSilence :
    ({ State.reset with spucnt := 1, cdFifo := [⟨1, 2⟩] }).spucnt.getLsbD 15 = false ∧
    ({ State.reset with spucnt := 1, cdFifo := [⟨1, 2⟩] }).spucnt.getLsbD 0 = true ∧
    1 < (0x600 + State.reset.ticksCarry) / 0x300 := by decide

theorem test_witness_AllVoicesOffEmitSilence :
    ({ State.reset with spucnt := 0x8000 }).spucnt.getLsbD 15 = true ∧ ({ State.reset with spucnt := 0x8000 }).spucnt.getLsbD 0 = false ∧
    ∀ v, (State.voice { State.reset with spucnt := 0x8000 } v).phase = .off := by decide

/-- An empty FIFO is not full, whatever the capacity; a FIFO of as many frames as the capacity is. -/
theorem test_witness_CdPushAppendsAndDropsTheOldestWhenFull :
    State.reset.cdFifo.length ≠ Config.params.cdFifoCapacity ∧
    ({ State.reset with cdFifo := List.replicate Config.params.cdFifoCapacity ⟨1, 1⟩ }).cdFifo.length = Config.params.cdFifoCapacity :=
  ⟨(Nat.succ_ne_zero _).symm, List.length_replicate⟩

/-- IRQ_ADDR equal to A, to A + 1, and 0 against A = 0xFFFF, with the flag clear and set. -/
theorem test_witness_IrqCheckMatchesTheBlockAddresses :
    playing.spucnt.getLsbD 6 = true ∧ playing.irqAddr.toNat = (1 : Half).toNat ∧ playing.irqAddr.toNat = (0 : Half).toNat + 1 ∧
    playing.irq9Flag = false ∧ busy.spucnt.getLsbD 6 = true ∧ busy.irqAddr.toNat = (2 : Half).toNat + 1 ∧ busy.irq9Flag = true ∧
    ¬ ((0 : Half).toNat = (0xFFFF : Half).toNat ∨ (0 : Half).toNat = (0xFFFF : Half).toNat + 1) := by decide

theorem test_witness_BlockIsQuietAfterReset :
    exec .reset busy = .next (after .reset busy) ∧ exec (.execute 0x600) (after .reset busy) = .next (after .reset busy) :=
  ⟨exec_after _ _, rfl⟩

end Sys2Proof.Tests
end

