-- ==== Sys2Proof/Proofs/RefusedWords.lean ====
section
/-! PROOF of O4. Which words the decoder refuses, one lemma for each branch of `decode` (R66), and that a step refuses a word
exactly when the decoder does. -/

namespace Sys2Proof

/-! ## The branches of the decoder -/

theorem decode_of_reservedKind {r : Request} (hk : kindField r.word = 7#3) : decode r = .error .reservedKind := if_pos hk

theorem decode_of_zeroFieldSet {r : Request} (hk : kindField r.word ≠ 7#3) (hz : zeroField r.word ≠ 0#3) :
    decode r = .error .zeroFieldSet := by rw [decode, if_neg hk, if_pos hz]

theorem decode_of_regRead {r : Request} (hz : zeroField r.word = 0#3) (hk : kindField r.word = 0#3) :
    decode r = decodeRegRead (offField r.word) := by simp [decode, hz, hk]

theorem decode_of_regWrite {r : Request} (hz : zeroField r.word = 0#3) (hk : kindField r.word = 1#3) :
    decode r = decodeRegWrite (offField r.word) (dataField r.word) r.payload.tSync := by simp [decode, hz, hk]

/-- The kinds 2 to 6, which carry neither offset nor data. -/
theorem decode_of_control {r : Request} (hk : kindField r.word ≠ 7#3) (hz : zeroField r.word = 0#3)
    (h0 : kindField r.word ≠ 0#3) (h1 : kindField r.word ≠ 1#3) :
    decode r = if r.word.extractLsb' 0 26 ≠ 0#26 then .error .controlBitsSet
      else decodeControl (kindField r.word) r.payload := by
  rw [decode, if_neg hk, if_neg (not_not_intro hz), if_neg h0, if_neg h1]

/-! ## What each branch refuses -/

/-- The check both register accesses begin with refuses exactly an odd offset and one beyond the window (R66). -/
theorem offsetCheck_error_iff (off : Offset) {row : Except DecodeError Instr} (hrow : ∀ e, row ≠ .error e) :
    (∃ e, (if off.toNat % 2 = 1 then .error .oddOffset
        else if 0x280 ≤ off.toNat then .error .offsetBeyondWindow else row) = .error e) ↔
      off.toNat % 2 = 1 ∨ 0x280 ≤ off.toNat := by
  by_cases hodd : off.toNat % 2 = 1
  · simp [hodd]
  by_cases hbeyond : 0x280 ≤ off.toNat
  · simp [hodd, hbeyond]
  simp [hodd, hbeyond, hrow]

theorem decodeRegRead_error_iff (off : Offset) :
    (∃ e, decodeRegRead off = .error e) ↔ off.toNat % 2 = 1 ∨ 0x280 ≤ off.toNat :=
  offsetCheck_error_iff off fun _ => by split <;> exact nofun

theorem decodeRegWrite_error_iff (off : Offset) (data : Half) (tSync : Nat) :
    (∃ e, decodeRegWrite off data tSync = .error e) ↔ off.toNat % 2 = 1 ∨ 0x280 ≤ off.toNat :=
  offsetCheck_error_iff off fun _ => by split <;> exact nofun

/-- No payload is refused. -/
theorem decodeControl_ne_error (kind : BitVec 3) (p : Payload) (e : DecodeError) : decodeControl kind p ≠ .error e := by
  unfold decodeControl
  repeat' split
  all_goals exact nofun

/-- The words the decoder refuses are those of R66, clause by clause. -/
theorem decode_error_iff (r : Request) :
    (∃ e, decode r = .error e) ↔
      kindField r.word = 7#3 ∨ zeroField r.word ≠ 0#3 ∨
      ((kindField r.word = 0#3 ∨ kindField r.word = 1#3) ∧
        ((offField r.word).toNat % 2 = 1 ∨ 0x280 ≤ (offField r.word).toNat)) ∨
      (kindField r.word ≠ 0#3 ∧ kindField r.word ≠ 1#3 ∧ r.word.extractLsb' 0 26 ≠ 0#26) := by
  by_cases hk : kindField r.word = 7#3
  · simp [decode_of_reservedKind hk, hk]
  by_cases hz : zeroField r.word = 0#3
  case neg => simp [decode_of_zeroFieldSet hk hz, hz]
  by_cases h0 : kindField r.word = 0#3
  · simp [decode_of_regRead hz h0, decodeRegRead_error_iff, hz, h0]
  by_cases h1 : kindField r.word = 1#3
  · simp [decode_of_regWrite hz h1, decodeRegWrite_error_iff, hz, h1]
  rw [decode_of_control hk hz h0 h1]
  by_cases hb : r.word.extractLsb' 0 26 = 0#26
  · simp [decodeControl_ne_error, hk, hz, h0, h1, hb]
  · simp [h0, h1, hb]

end Sys2Proof

namespace Sys2Proof.Machine

/-! ## The step refuses what the decoder refuses -/

/-- No transaction is refused once it is decoded (R163). -/
theorem exec_ne_refused (i : Instr) (s : State) (x : Refusal) : exec i s ≠ .refused x := by
  cases i <;> exact nofun

theorem step_of_decode_ok {s : State} {r : Request} {rest : List Request} {i : Instr} (hs : s.inbox = r :: rest)
    (hd : decode r = .ok i) : step s = exec i { s with inbox := rest } := by simp [step, takeRequest, hs, hd]

theorem step_of_decode_error {s : State} {r : Request} {rest : List Request} {e : DecodeError} (hs : s.inbox = r :: rest)
    (hd : decode r = .error e) : step s = .refused (.notATransaction e) := by simp [step, takeRequest, hs, hd]

theorem step_refuses_iff {s : State} {r : Request} {rest : List Request} (hs : s.inbox = r :: rest) :
    (∃ e, step s = .refused (.notATransaction e)) ↔ ∃ e, decode r = .error e := by
  cases hd : decode r with
  | ok i => simp [step_of_decode_ok hs hd, exec_ne_refused]
  | error e => simp [step_of_decode_error hs hd]

/-- Settles O4: a step refuses what the decoder refuses, the decoder refuses what R66 lists, and an unknown offset is read or
written as such. -/
theorem refusedWordsAreExactlyThoseOfTheRule : Obligations.RefusedWordsAreExactlyThoseOfTheRule := by
  intro s r rest hs
  refine ⟨(step_refuses_iff hs).trans (decode_error_iff r), fun hz hu => ⟨fun hk => ?_, fun hk => ?_⟩⟩
  · rw [decode_of_regRead hz hk, decodeRegRead_unknown hu]
  · rw [decode_of_regWrite hz hk, decodeRegWrite_unknown hu]

end Sys2Proof.Machine
end

/-! PROOF of O16 to O27: the register file (40_register_file.md) and the PIO transfer. A read replies with the stored register. A
synchronized write is its store, applied to the state that EXECUTE of its catch-up answers; the remaining writes run no catch-up. -/

namespace Sys2Proof

/-! ## The row at an offset -/

/-- The read at `16v + 2 reg` (R62). -/
theorem decode_rd_voice (v : VoiceId) (reg : Fin 8) : decode (.rd (voiceOffset v reg)) = .ok (voiceRead v reg) :=
  (decode_rd _).trans (decodeRegRead_voice v reg)

/-- The write at `16v + 2 reg` (R62). -/
theorem decode_wr_voice (v : VoiceId) (reg : Fin 8) (d : Half) (n : Nat) :
    decode (.wr (voiceOffset v reg) d n) = .ok (voiceWrite v reg d n) :=
  (decode_wr _ _ _).trans (decodeRegWrite_voice v reg d n)

/-- Even, above the voice registers and inside the window: the offsets of the global registers and the unknown ones (R63, R64). -/
abbrev IsGlobalOffset (off : Offset) : Prop := off.toNat % 2 = 0 ∧ 0x180 ≤ off.toNat ∧ off.toNat < 0x280

theorem decode_rd_global {off : Offset} (h : IsGlobalOffset off) : decode (.rd off) = .ok (globalRead off) := by
  obtain ⟨heven, hlow, hhigh⟩ := h
  rw [decode_rd, decodeRegRead, if_neg (by omega), if_neg (by omega), dif_neg (by omega)]

theorem decode_wr_global {off : Offset} (h : IsGlobalOffset off) (d : Half) (n : Nat) :
    decode (.wr off d n) = .ok (globalWrite off d n) := by
  obtain ⟨heven, hlow, hhigh⟩ := h
  rw [decode_wr, decodeRegWrite, if_neg (by omega), if_neg (by omega), dif_neg (by omega)]

end Sys2Proof

namespace Sys2Proof.Machine

/-! ## The eight registers of a voice, by number (R30) -/

/-- The voice register that a read of number `reg` returns. -/
def Voice.loadReg (reg : Fin 8) (x : Voice) : Half :=
  match reg with
  | 0 => x.volumeLeft
  | 1 => x.volumeRight
  | 2 => x.sampleRate
  | 3 => x.startAddress
  | 4 => x.adsrLow
  | 5 => x.adsrHigh
  | 6 => x.adsrVolume
  | 7 => x.repeatAddress

/-- The voice after a store of `d` in its register of number `reg`. -/
def Voice.storeReg (reg : Fin 8) (d : Half) (x : Voice) : Voice :=
  match reg with
  | 0 => { x with volumeLeft := d }
  | 1 => { x with volumeRight := d }
  | 2 => { x with sampleRate := d }
  | 3 => { x with startAddress := d }
  | 4 => { x with adsrLow := d }
  | 5 => { x with adsrHigh := d }
  | 6 => { x with adsrVolume := d }
  | 7 => { x with repeatAddress := d }

theorem exec_voiceRead (v : VoiceId) (reg : Fin 8) (s : State) :
    exec (voiceRead v reg) s = .next { s with reply := .half ((s.voice v).loadReg reg) } := by
  fin_cases reg <;> rfl

theorem exec_voiceWrite (v : VoiceId) (reg : Fin 8) (d : Half) (n : Nat) (s : State) :
    exec (voiceWrite v reg d n) s = writeVoice v n (Voice.storeReg reg d) s := by
  fin_cases reg <;> rfl

/-! ## The state after a catch-up -/

/-- The state that EXECUTE of `n` ticks answers (R144). -/
def executed (n : Nat) (s : State) : State := (execute Config.params n s).withReply .none

theorem exec_execute (n : Nat) (s : State) : exec (.execute n) s = .next (executed n s) := rfl

theorem eq_executed_of_exec {n : Nat} {s c : State} (h : exec (.execute n) s = .next c) : c = executed n s :=
  (Host.Outcome.next.inj h).symm

theorem executed_kon (n : Nat) (s : State) : (executed n s).kon = s.kon := by
  obtain ⟨-, -, -, hkon, -⟩ := (onlySampling_execute Config.params n s).fields
  exact hkon

theorem executed_koff (n : Nat) (s : State) : (executed n s).koff = s.koff := by
  obtain ⟨-, -, -, -, hkoff, -⟩ := (onlySampling_execute Config.params n s).fields
  exact hkoff

theorem executed_eon (n : Nat) (s : State) : (executed n s).eon = s.eon := by
  obtain ⟨-, -, -, -, -, heon, -⟩ := (onlySampling_execute Config.params n s).fields
  exact heon

/-- Execute leaves less than one sample in the carry (R25, R144). -/
theorem execute_ticksCarry_lt (p : Config.Params) (n : Nat) (s : State) : (execute p n s).ticksCarry < Config.ticksPerSample := by
  refine execute_induction p (fun u => u.ticksCarry < Config.ticksPerSample) n s (Nat.mod_lt _ (by decide)) fun u hu => ?_
  rwa [generateSample_ticksCarry]

/-- With less than one sample in the carry, an Execute of no ticks does nothing. -/
theorem execute_zero (p : Config.Params) {s : State} (h : s.ticksCarry < Config.ticksPerSample) : execute p 0 s = s := by
  simp [execute, Nat.mod_eq_of_lt h, Nat.div_eq_of_lt h, generateSamples]

/-- After an Execute, one of no ticks does nothing: the carry is below one sample (R25). -/
theorem execute_zero_executed (n : Nat) (s : State) : execute Config.params 0 (executed n s) = executed n s :=
  execute_zero _ (execute_ticksCarry_lt Config.params n s)

/-! ## Voice-register writes (R75 to R89) -/

/-- The state a voice-register write finds: that of EXECUTE when the voice is on as the write arrives, else the state itself. -/
def caughtUp (v : VoiceId) (n : Nat) (s : State) : State := (voiceCatchUp Config.params v n s).withReply .none

theorem voiceCatchUp_of_on (p : Config.Params) {v : VoiceId} {s : State} (h : (s.voice v).phase ≠ .off) (n : Nat) :
    voiceCatchUp p v n s = execute p n s := if_pos (decide_eq_true h)

theorem voiceCatchUp_of_off (p : Config.Params) {v : VoiceId} {s : State} (h : (s.voice v).phase = .off) (n : Nat) :
    voiceCatchUp p v n s = s := if_neg (by simp [Voice.isOn, h])

theorem onlyVoice_mapVoice (v : VoiceId) (f : Voice → Voice) (s : State) : OnlyVoice v (f (s.voice v)) s (s.mapVoice v f) :=
  ⟨s.voice_mapVoice_self v f, fun _ h => s.voice_mapVoice_ne f h, rfl⟩

/-- A voice-register write stores in its register of the caught-up state and changes nothing else (R73). -/
theorem voiceWrite_stores (v : VoiceId) (reg : Fin 8) (d : Half) (n : Nat) (s : State) :
    decode (.wr (voiceOffset v reg) d n) = .ok (voiceWrite v reg d n) ∧
      ∃ t, exec (voiceWrite v reg d n) s = .next t ∧
        OnlyVoice v (((caughtUp v n s).voice v).storeReg reg d) (caughtUp v n s) t :=
  ⟨decode_wr_voice v reg d n, (caughtUp v n s).mapVoice v (Voice.storeReg reg d), exec_voiceWrite v reg d n s,
    onlyVoice_mapVoice v _ _⟩

/-- R73 for a voice-register write: EXECUTE when the voice is on, then the write with no catch-up, whether or not the voice is
still on. -/
theorem voiceWrite_eq_after_catchUp {v : VoiceId} {n : Nat} {s c : State}
    (hon : (s.voice v).phase ≠ .off → exec (.execute n) s = .next c) (hoff : (s.voice v).phase = .off → c = s)
    (reg : Fin 8) (d : Half) : exec (voiceWrite v reg d n) s = exec (voiceWrite v reg d 0) c := by
  rw [exec_voiceWrite, exec_voiceWrite]
  unfold writeVoice
  by_cases h : (s.voice v).phase = .off
  · rw [hoff h, voiceCatchUp_of_off _ h, voiceCatchUp_of_off _ h]
  · have noCatchUp : voiceCatchUp Config.params v 0 (executed n s) = executed n s := by
      unfold voiceCatchUp
      rw [execute_zero_executed, ite_self]
    rw [eq_executed_of_exec (hon h), noCatchUp, voiceCatchUp_of_on _ h]
    rfl

/-! ## Synchronized writes of global registers (R91 to R105) -/

/-- The reply is no input of the action, and the action leaves it alone. -/
def IgnoresReply (act : State → State) : Prop := ∀ (s : State) (r : Reply), act (s.withReply r) = (act s).withReply r

theorem forVoices_ignoresReply {act : VoiceId → State → State} (h : ∀ v, IgnoresReply (act v)) (mask : Word) :
    IgnoresReply (forVoices act mask) := by
  intro s r
  refine List.foldl_hom (State.withReply · r) fun u v => ?_
  split
  · exact h v u r
  · rfl

/-- A synchronized write is its action on the state that EXECUTE of its catch-up answers (R73). -/
theorem writeGlobal_eq_executed {act : State → State} (h : IgnoresReply act) (n : Nat) (s : State) :
    writeGlobal n act s = .next (act (executed n s)) :=
  congrArg Host.Outcome.next (h (execute Config.params n s) .none).symm

/-- R73 for a global register: EXECUTE, then the write with no catch-up. -/
theorem writeGlobal_eq_after_execute {act : State → State} (h : IgnoresReply act) {n : Nat} {s c : State}
    (hc : exec (.execute n) s = .next c) : writeGlobal n act s = writeGlobal 0 act c := by
  have idle : executed 0 c = c := by
    rw [eq_executed_of_exec hc, executed, execute_zero_executed]
    rfl
  rw [writeGlobal_eq_executed h, writeGlobal_eq_executed h, idle, eq_executed_of_exec hc]

/-- The action of a KON half write on mask `mask`, `merge` being the merge of the half (R95, R97). -/
def writeKon (merge : Word → Word) (mask : Word) (s : State) : State :=
  forVoices (keyOn Config.params) mask { s with kon := merge s.kon }

/-- The action of a KOFF half write on mask `mask`, `merge` being the merge of the half (R99, R101). -/
def writeKoff (merge : Word → Word) (mask : Word) (s : State) : State :=
  forVoices keyOff mask { s with koff := merge s.koff }

theorem writeKon_ignoresReply (merge : Word → Word) (mask : Word) : IgnoresReply (writeKon merge mask) :=
  fun s r => forVoices_ignoresReply (fun _ _ _ => rfl) mask { s with kon := merge s.kon } r

theorem writeKoff_ignoresReply (merge : Word → Word) (mask : Word) : IgnoresReply (writeKoff merge mask) :=
  fun s r => forVoices_ignoresReply (fun _ _ _ => rfl) mask { s with koff := merge s.koff } r

/-- KeyOn of the named voices writes the voices and ENDX alone. -/
theorem forVoices_keyOn_frame (p : Config.Params) (mask : Word) (s : State) :
    forVoices (keyOn p) mask s =
      { s with voices := (forVoices (keyOn p) mask s).voices, endx := (forVoices (keyOn p) mask s).endx } := by
  have frame : ∃ vs e, forVoices (keyOn p) mask s = { s with voices := vs, endx := e } :=
    forVoices_induction (fun t => ∃ vs e, t = { s with voices := vs, endx := e }) mask s ⟨_, _, rfl⟩
      (by rintro v _ - ⟨vs, e, rfl⟩; exact ⟨_, _, rfl⟩)
  obtain ⟨vs, e, h⟩ := frame
  rw [h]

/-- KeyOff of the named voices writes the voices alone. -/
theorem forVoices_keyOff_frame (mask : Word) (s : State) :
    forVoices keyOff mask s = { s with voices := (forVoices keyOff mask s).voices } := by
  have frame : ∃ vs, forVoices keyOff mask s = { s with voices := vs } :=
    forVoices_induction (fun t => ∃ vs, t = { s with voices := vs }) mask s ⟨_, rfl⟩
      (by rintro v _ - ⟨vs, rfl⟩; exact ⟨_, rfl⟩)
  obtain ⟨vs, h⟩ := frame
  rw [h]

theorem writeKon_voice (merge : Word → Word) (mask : Word) (s : State) (v : VoiceId) :
    (writeKon merge mask s).voice v = if mask.getLsbD v.val = true then (s.voice v).keyOn else s.voice v :=
  forVoices_voice (fun v u s => by rw [State.voice_keyOn]; split <;> simp [*]) mask _ v

theorem writeKoff_voice (merge : Word → Word) (mask : Word) (s : State) (v : VoiceId) :
    (writeKoff merge mask s).voice v = if mask.getLsbD v.val = true then (s.voice v).keyOff else s.voice v :=
  forVoices_voice (fun v u s => by rw [State.voice_keyOff]; split <;> simp [*]) mask _ v

theorem writeKon_endx (merge : Word → Word) (mask : Word) (s : State) (b : Nat) :
    (writeKon merge mask s).endx.getLsbD b =
      (s.endx.getLsbD b && !(Config.endxClearOnKeyOn && decide (b < 24) && mask.getLsbD b)) :=
  forVoices_keyOn_endx Config.params mask _ b

theorem writeKon_frame (merge : Word → Word) (mask : Word) (s : State) :
    writeKon merge mask s =
      { s with kon := merge s.kon, voices := (writeKon merge mask s).voices, endx := (writeKon merge mask s).endx } :=
  forVoices_keyOn_frame Config.params mask { s with kon := merge s.kon }

theorem writeKoff_frame (merge : Word → Word) (mask : Word) (s : State) :
    writeKoff merge mask s = { s with koff := merge s.koff, voices := (writeKoff merge mask s).voices } :=
  forVoices_keyOff_frame mask { s with koff := merge s.koff }

theorem exec_wrKonLo (d : Half) (n : Nat) (s : State) :
    exec (.wrKonLo d n) s = .next (writeKon (mergeLow · d) (lowMask d) (executed n s)) :=
  writeGlobal_eq_executed (writeKon_ignoresReply (mergeLow · d) (lowMask d)) n s

theorem exec_wrKonHi (d : Half) (n : Nat) (s : State) :
    exec (.wrKonHi d n) s = .next (writeKon (mergeHigh · d) (highMask d) (executed n s)) :=
  writeGlobal_eq_executed (writeKon_ignoresReply (mergeHigh · d) (highMask d)) n s

theorem exec_wrKoffLo (d : Half) (n : Nat) (s : State) :
    exec (.wrKoffLo d n) s = .next (writeKoff (mergeLow · d) (lowMask d) (executed n s)) :=
  writeGlobal_eq_executed (writeKoff_ignoresReply (mergeLow · d) (lowMask d)) n s

theorem exec_wrKoffHi (d : Half) (n : Nat) (s : State) :
    exec (.wrKoffHi d n) s = .next (writeKoff (mergeHigh · d) (highMask d) (executed n s)) :=
  writeGlobal_eq_executed (writeKoff_ignoresReply (mergeHigh · d) (highMask d)) n s

/-! ## Operand fields as numbers -/

/-- SPUSTAT has the flag in bit 6 and every other bit 0 (R17, R118). -/
theorem spustat_eq (s : State) : s.spustat = (BitVec.ofBool s.irq9Flag).zeroExtend 16 <<< 6 := by
  unfold State.spustat
  cases s.irq9Flag <;> rfl

theorem ramTransferMode_eq (d : Half) : ramTransferMode d = d.toNat / 16 % 4 := by
  simp [ramTransferMode, BitVec.extractLsb'_toNat, Nat.shiftRight_eq_div_pow]

theorem dmaRequestOf_eq (d : Half) : dmaRequestOf d = decide (d.toNat / 16 % 4 = 2 ∨ d.toNat / 16 % 4 = 3) := by
  rw [dmaRequestOf, ramTransferMode_eq, Bool.decide_or]
  rfl

/-! ## The PIO transfer (R122) -/

theorem halfBytes_eq (h : Half) : halfBytes h = [BitVec.ofNat 8 (h.toNat % 256), BitVec.ofNat 8 (h.toNat / 256)] := by
  have low : h.extractLsb' 0 8 = BitVec.ofNat 8 (h.toNat % 256) := by
    apply BitVec.eq_of_toNat_eq
    simp
  have high : h.extractLsb' 8 8 = BitVec.ofNat 8 (h.toNat / 256) := by
    apply BitVec.eq_of_toNat_eq
    simp [Nat.shiftRight_eq_div_pow]
  rw [halfBytes, low, high]

/-- A read after a PIO write: its two bytes at the cursor and after it modulo `RAM_SIZE`, every other byte as before. -/
theorem pioWrite_readByte (d : Half) {s : State} (h : s.ram.wf = true) {a : Nat} (ha : a < 0x80000) :
    (pioWrite d s).readByte a =
      if a = s.cursor.toNat then BitVec.ofNat 8 (d.toNat % 256)
      else if a = (s.cursor.toNat + 1) % 0x80000 then BitVec.ofNat 8 (d.toNat / 256)
      else s.readByte a := by
  have hcursor : s.cursor.toNat < 0x80000 := s.cursor.isLt
  have next : (s.cursor + 1).toNat = (s.cursor.toNat + 1) % 0x80000 := BitVec.toNat_add s.cursor 1
  simp only [State.readByte, State.pioWrite_ram, halfBytes_eq, writeBytes, Config.ramSize, Nat.mod_eq_of_lt ha, next,
    Memory.read_write (Memory.wf_write h (ramIndex_lt s.cursor)), Memory.read_write h]
  by_cases hfirst : a = s.cursor.toNat
  · rw [if_neg (by omega), if_pos hfirst, if_pos hfirst]
  · rw [if_neg hfirst, if_neg hfirst]

/-! ## The obligations -/

/-- Settles O19: the write stores in the caught-up state, which the phase on arrival determines. -/
theorem voiceRegisterWritesStoreAfterTheCatchUp : Obligations.VoiceRegisterWritesStoreAfterTheCatchUp := by
  intro v d n s
  have stores := fun reg => voiceWrite_stores v reg d n s
  refine ⟨caughtUp v n s, fun hon => ?_, fun hoff => ?_, stores 0, stores 1, stores 2, stores 3, stores 4, stores 5, stores 6,
    stores 7⟩
  · rw [exec_execute, caughtUp, voiceCatchUp_of_on _ hon, executed]
  · rw [caughtUp, voiceCatchUp_of_off _ hoff]
    rfl

/-- Settles O20: each store acts on the state after Execute, which leaves EON alone. -/
theorem mainVolumeAndReverbWritesStoreAfterTheCatchUp : Obligations.MainVolumeAndReverbWritesStoreAfterTheCatchUp := by
  intro d n s
  rw [← executed_eon n s]
  exact ⟨executed n s, exec_execute n s,
    ⟨decode_wr_global (by decide) d n, writeGlobal_eq_executed (fun _ _ => rfl) n s⟩,
    ⟨decode_wr_global (by decide) d n, writeGlobal_eq_executed (fun _ _ => rfl) n s⟩,
    ⟨decode_wr_global (by decide) d n, writeGlobal_eq_executed (fun _ _ => rfl) n s⟩,
    ⟨decode_wr_global (by decide) d n, writeGlobal_eq_executed (fun _ _ => rfl) n s⟩⟩

/-- Settles O21: the KON action on the state after Execute, with the mask of each half. -/
theorem keyOnWritesMergeAndStartTheirVoices : Obligations.KeyOnWritesMergeAndStartTheirVoices := by
  intro d n s
  rw [← executed_kon n s]
  refine ⟨executed n s, exec_execute n s,
    ⟨decode_wr_global (by decide) d n, _, exec_wrKonLo d n s, writeKon_frame _ _ _, fun v => ?voicesLo, fun b => ?endxLo⟩,
    ⟨decode_wr_global (by decide) d n, _, exec_wrKonHi d n s, writeKon_frame _ _ _, fun v => ?voicesHi, fun b => ?endxHi⟩⟩
  case voicesLo => simp [writeKon_voice, lowMask_getLsbD]
  case voicesHi => simp [writeKon_voice, highMask_getLsbD]
  case endxLo =>
    have named : (decide (b < 24) && decide (b < 16)) = decide (b < 16) := by
      rw [← Bool.decide_and, decide_eq_decide]; omega
    rw [writeKon_endx, lowMask_getLsbD, Bool.and_assoc, ← Bool.and_assoc (decide (b < 24)), named, Bool.and_assoc]
  case endxHi =>
    rw [writeKon_endx, highMask_getLsbD]
    simp only [Bool.and_assoc, Bool.and_left_comm]

/-- Settles O22: the KOFF action on the state after Execute, with the mask of each half. -/
theorem keyOffWritesMergeAndReleaseTheirVoices : Obligations.KeyOffWritesMergeAndReleaseTheirVoices := by
  intro d n s
  rw [← executed_koff n s]
  refine ⟨executed n s, exec_execute n s,
    ⟨decode_wr_global (by decide) d n, _, exec_wrKoffLo d n s, writeKoff_frame _ _ _, fun v => ?voicesLo⟩,
    ⟨decode_wr_global (by decide) d n, _, exec_wrKoffHi d n s, writeKoff_frame _ _ _, fun v => ?voicesHi⟩⟩
  case voicesLo => simp [writeKoff_voice, lowMask_getLsbD]
  case voicesHi => simp [writeKoff_voice, highMask_getLsbD]

/-- Settles O25: after the catch-up the carry is below one sample, so the second write's Execute of no ticks does nothing. -/
theorem synchronizedWriteIsExecuteThenWrite : Obligations.SynchronizedWriteIsExecuteThenWrite := by
  refine ⟨fun d n s c hc => ?_, fun v d n s c hon hoff => ?_⟩
  · have store {act : State → State} (h : IgnoresReply act) := writeGlobal_eq_after_execute h hc
    have kon := fun merge mask => store (writeKon_ignoresReply merge mask)
    have koff := fun merge mask => store (writeKoff_ignoresReply merge mask)
    exact ⟨store fun _ _ => rfl, store fun _ _ => rfl, kon (mergeLow · d) (lowMask d), kon (mergeHigh · d) (highMask d),
      koff (mergeLow · d) (lowMask d), koff (mergeHigh · d) (highMask d), store fun _ _ => rfl, store fun _ _ => rfl⟩
  · have store := fun reg => voiceWrite_eq_after_catchUp hon hoff reg d
    exact ⟨store 0, store 1, store 2, store 3, store 4, store 5, store 6, store 7⟩

/-- Settles O27: the PIO write of R122, whatever the transfer mode. -/
theorem transferDataWriteStoresTwoBytesAtTheCursor : Obligations.TransferDataWriteStoresTwoBytesAtTheCursor := by
  intro d n s
  exact ⟨decode_wr_global (by decide) d n, (pioWrite d s).withReply .none, rfl, rfl, BitVec.toNat_add s.cursor 2,
    fun hwf _ ha => pioWrite_readByte d hwf ha⟩

/-- Settles O16, register by register. -/
theorem voiceRegisterReadsReturnTheStoredValue : Obligations.VoiceRegisterReadsReturnTheStoredValue := by
  intro v s
  have returns := fun reg => And.intro (decode_rd_voice v reg) (exec_voiceRead v reg s)
  exact ⟨returns 0, returns 1, returns 2, returns 3, returns 4, returns 5, returns 6, returns 7⟩

/-- Settles O17: each offset is its row's, and each row's arm is one reply. -/
theorem mainVolumeAndVoiceMaskReadsReturnTheStoredValue : Obligations.MainVolumeAndVoiceMaskReadsReturnTheStoredValue := by
  intro s
  refine ⟨⟨?_, rfl⟩, ⟨?_, rfl⟩, ⟨?_, rfl⟩, ⟨?_, rfl⟩, ⟨?_, rfl⟩, ⟨?_, rfl⟩, ⟨?_, rfl⟩, ⟨?_, rfl⟩, ⟨?_, rfl⟩, ⟨?_, rfl⟩⟩ <;>
    exact decode_rd_global (by decide)

/-- Settles O18. -/
theorem transferControlAndUnknownReads : Obligations.TransferControlAndUnknownReads := by
  refine ⟨fun s => ⟨⟨decode_rd_global (by decide), rfl⟩, ⟨decode_rd_global (by decide), rfl⟩,
    ⟨decode_rd_global (by decide), rfl⟩, ⟨decode_rd_global (by decide), rfl⟩, ⟨decode_rd_global (by decide), ?_⟩⟩,
    fun s off hoff => ⟨(decode_rd off).trans (decodeRegRead_unknown hoff), rfl⟩⟩
  rw [← spustat_eq]
  rfl

/-- Settles O23: none of these arms reads `tSync`. -/
theorem ignoredWritesAndIrqAddressWrite : Obligations.IgnoredWritesAndIrqAddressWrite :=
  ⟨fun d n _ => ⟨⟨decode_wr_global (by decide) d n, rfl⟩, ⟨decode_wr_global (by decide) d n, rfl⟩,
      ⟨decode_wr_global (by decide) d n, rfl⟩, ⟨decode_wr_global (by decide) d n, rfl⟩⟩,
    fun off d n _ hoff => ⟨(decode_wr off d n).trans (decodeRegWrite_unknown hoff d n), rfl⟩⟩

/-- Settles O24: UpdateDmaRequest reads the mode of the value just stored. -/
theorem spucntWriteStoresAndUpdatesTheDmaRequest : Obligations.SpucntWriteStoresAndUpdatesTheDmaRequest := by
  intro d n s
  refine ⟨decode_wr_global (by decide) d n, ?_⟩
  rw [← dmaRequestOf_eq]
  rfl

/-- Settles O26: the cursor is the byte index of the voice address written (R70). -/
theorem transferAddressWriteSetsTheCursor : Obligations.TransferAddressWriteSetsTheCursor := by
  intro d n s
  exact ⟨decode_wr_global (by decide) d n, { s with taddr := d, cursor := addressIndex d, reply := .none }, rfl, rfl,
    addressIndex_toNat d⟩

end Sys2Proof.Machine

/-! PROOF of O28 and O29: the DMA transfers (41_ram_transfer.md). A DMA write is one run of bytes, and a RAM index of the cursor's
type is a byte number modulo `RAM_SIZE`, so both transfers come down to single bytes at the cursor plus a number. -/

namespace Sys2Proof

/-! ## The request on the wire -/

/-- A request of one of the kinds 2 to 6 is read by its kind and payload alone (R61). -/
theorem decode_control {kind : BitVec 3} (h0 : kind ≠ 0#3) (h1 : kind ≠ 1#3) (h7 : kind ≠ 7#3) (p : Payload) :
    decode (.control kind p) = decodeControl kind p := by
  have hkind : kindField (Request.control kind p).word = kind := kindField_makeWord kind 0#10 0#16
  have hzero : zeroField (Request.control kind p).word = 0#3 := zeroField_makeWord kind 0#10 0#16
  rw [decode_of_control (by rwa [hkind]) hzero (by rwa [hkind]) (by rwa [hkind]), hkind]
  exact if_neg (not_not_intro (lowBits_makeWord_zero kind))

theorem decode_encode_dmaWrite (ws : List Word) : decode (encode (.dmaWrite ws)) = .ok (.dmaWrite ws) :=
  decode_control (by decide) (by decide) (by decide) _

theorem decode_encode_dmaRead (n : Nat) : decode (encode (.dmaRead n)) = .ok (.dmaRead n) :=
  decode_control (by decide) (by decide) (by decide) _

end Sys2Proof

namespace Sys2Proof.Machine

/-! ## Addresses relative to the cursor -/

/-- The byte at a RAM index plus a number is the byte at their sum modulo `RAM_SIZE` (R46). -/
theorem readByte_toNat_add (s : State) (i : RamIndex) (x : Nat) :
    s.readByte (i.toNat + x) = ramByte s.ram (i + BitVec.ofNat 19 x) := by
  have sum : (i + BitVec.ofNat 19 x).toNat = (i.toNat + x) % Config.ramSize := by
    rw [BitVec.toNat_add, BitVec.toNat_ofNat, Nat.add_mod_mod, Config.ramSize]
  rw [ramByte, sum, State.readByte]

theorem advance_toNat (i : RamIndex) (n : Nat) : (advance i n).toNat = (i.toNat + n) % 0x80000 := by
  rw [advance, BitVec.toNat_add, BitVec.toNat_ofNat, Nat.add_mod_mod]

theorem advance_add (i : RamIndex) (m n : Nat) : advance i (m + n) = advance (advance i m) n := by
  rw [advance, advance, advance, BitVec.ofNat_add, BitVec.add_assoc]

/-! ## The bytes of a list of words (R47) -/

/-- Byte `j` of a word is its bits from `8j` on. -/
theorem wordBytes_eq (w : Word) : wordBytes w = (List.range 4).map fun j => BitVec.ofNat 8 (w.toNat / 2 ^ (8 * j)) := by
  have byte (j : Nat) : w.extractLsb' (8 * j) 8 = BitVec.ofNat 8 (w.toNat / 2 ^ (8 * j)) := by
    rw [BitVec.extractLsb', Nat.shiftRight_eq_div_pow]
  exact List.map_congr_left (l := List.range 4) fun j _ => byte j

theorem length_flatMap_wordBytes (ws : List Word) : (ws.flatMap wordBytes).length = 4 * ws.length := by
  induction ws with
  | nil => rfl
  | cons w ws ih =>
    rw [List.flatMap_cons, List.length_append, ih, List.length_cons, Nat.mul_succ, Nat.add_comm]
    rfl

/-- Byte `x` of a list of words is byte `x % 4` of word `x / 4`. -/
theorem getD_flatMap_wordBytes (ws : List Word) (x : Nat) (b : Byte) :
    (ws.flatMap wordBytes).getD x b =
      if h : x / 4 < ws.length then BitVec.ofNat 8 (ws[x / 4].toNat / 2 ^ (8 * (x % 4))) else b := by
  induction ws generalizing x with
  | nil => rfl
  | cons w ws ih =>
    have length_word : (wordBytes w).length = 4 := rfl
    rw [List.flatMap_cons]
    by_cases hx : x < 4
    · have hdiv : x / 4 = 0 := by omega
      have hmod : x % 4 = x := by omega
      rw [List.getD_append _ _ _ _ hx]
      simp [hdiv, hmod, wordBytes_eq, hx]
    · obtain ⟨y, rfl⟩ := Nat.exists_eq_add_of_le' (Nat.le_of_not_lt hx)
      rw [List.getD_append_right _ _ _ _ (Nat.le_add_left 4 y), length_word, Nat.add_sub_cancel, ih]
      simp [Nat.add_div_right]

/-! ## DMA writes (R124) -/

/-- A read after a DMA write no longer than the RAM: byte `x` of the words at the cursor plus `x`, every other byte as before. -/
theorem dmaWriteWords_readByte {s : State} (hwf : s.ram.wf = true) {ws : List Word} (hlen : 4 * ws.length ≤ 0x80000) {x : Nat}
    (hx : x < 0x80000) :
    (dmaWriteWords ws s).readByte (s.cursor.toNat + x) =
      if h : x / 4 < ws.length then BitVec.ofNat 8 (ws[x / 4].toNat / 2 ^ (8 * (x % 4)))
      else s.readByte (s.cursor.toNat + x) := by
  have offset : (s.cursor + BitVec.ofNat 19 x - s.cursor).toNat = x := by
    rw [add_sub_cancel_left, BitVec.toNat_ofNat, Nat.mod_eq_of_lt hx]
  have hbytes : (ws.flatMap wordBytes).length ≤ Config.ramSize := (length_flatMap_wordBytes ws).trans_le hlen
  rw [readByte_toNat_add, readByte_toNat_add, State.dmaWriteWords_ram, writeWords_eq_writeBytes, ramByte_writeBytes hwf _ _ hbytes,
    offset, getD_flatMap_wordBytes]

theorem writeWords_append (m : Memory) (i : RamIndex) (us vs : List Word) :
    writeWords m i (us ++ vs) = writeWords (writeWords m i us) (advance i (4 * us.length)) vs := by
  induction us generalizing m i with
  | nil => simp [writeWords, advance]
  | cons w us ih =>
    have next : advance (i + 4) (4 * us.length) = advance i (4 * (us.length + 1)) := by
      rw [Nat.mul_succ, Nat.add_comm, advance_add]
      rfl
    rw [List.cons_append, writeWords, ih, next, writeWords, List.length_cons]

/-- A DMA write of two lists is the DMA write of the first, then of the second. -/
theorem dmaWriteWords_append (us vs : List Word) (s : State) :
    dmaWriteWords (us ++ vs) s = dmaWriteWords vs (dmaWriteWords us s) := by
  simp only [dmaWriteWords, writeWords_append, List.length_append, Nat.mul_add, advance_add]

theorem exec_dmaWrite (ws : List Word) (s : State) : exec (.dmaWrite ws) s = .next ((dmaWriteWords ws s).withReply .none) := rfl

/-- The reply an earlier transfer left is overwritten. -/
theorem exec_dmaWrite_withReply (ws : List Word) (s : State) (r : Reply) :
    exec (.dmaWrite ws) (s.withReply r) = exec (.dmaWrite ws) s := rfl

/-! ## DMA reads (R125) -/

/-- A word is read low byte first (R47). -/
theorem readWord_toNat (m : Memory) (i : RamIndex) :
    (readWord m i).toNat = (ramByte m i).toNat + 2 ^ 8 * (ramByte m (i + 1)).toNat + 2 ^ 16 * (ramByte m (i + 2)).toNat +
      2 ^ 24 * (ramByte m (i + 3)).toNat := by
  simp only [readWord, BitVec.toNat_append]
  rw [← Nat.shiftLeft_add_eq_or_of_lt (ramByte m i).isLt, ← Nat.shiftLeft_add_eq_or_of_lt (ramByte m (i + 1)).isLt,
    ← Nat.shiftLeft_add_eq_or_of_lt (ramByte m (i + 2)).isLt]
  simp only [Nat.shiftLeft_eq]
  omega

theorem exec_dmaRead (n : Nat) (s : State) :
    exec (.dmaRead n) s = .next { s with cursor := advance s.cursor (4 * n), reply := .words (dmaReadWords n s) } := rfl

/-- Word `k` of a DMA read is the four bytes at the cursor plus `4k`, low byte first. -/
theorem dmaReadWords_getElem_toNat (n : Nat) (s : State) {k : Nat} (h : k < (dmaReadWords n s).length) :
    (dmaReadWords n s)[k].toNat =
      (s.readByte (s.cursor.toNat + 4 * k)).toNat + 2 ^ 8 * (s.readByte (s.cursor.toNat + 4 * k + 1)).toNat +
      2 ^ 16 * (s.readByte (s.cursor.toNat + 4 * k + 2)).toNat + 2 ^ 24 * (s.readByte (s.cursor.toNat + 4 * k + 3)).toNat := by
  have hk : k < n := by rwa [dmaReadWords, readWords_length] at h
  have word : (dmaReadWords n s)[k] = readWord s.ram (s.cursor + BitVec.ofNat 19 (4 * k)) := readWords_getElem s.ram s.cursor n k hk
  simp only [word, readWord_toNat, Nat.add_assoc s.cursor.toNat, readByte_toNat_add, BitVec.ofNat_add, ← BitVec.add_assoc]
  rfl

/-! ## The obligations -/

/-- Settles O28: the words are one run of bytes from the cursor, and a run splits where its list does. -/
theorem dmaWriteStoresItsWordsAtTheCursor : Obligations.DmaWriteStoresItsWordsAtTheCursor := by
  intro ws s
  refine ⟨decode_encode_dmaWrite ws, (dmaWriteWords ws s).withReply .none, exec_dmaWrite ws s, rfl, advance_toNat _ _,
    fun hwf hlen _ hx => dmaWriteWords_readByte hwf hlen hx, ?_⟩
  rintro us vs u rfl hu
  rw [exec_dmaWrite] at hu
  rw [← Host.Outcome.next.inj hu, exec_dmaWrite_withReply, exec_dmaWrite, dmaWriteWords_append]

/-- Settles O29: word `k` of the read is the word at the cursor plus `4k`, byte by byte. -/
theorem dmaReadReturnsTheWordsAtTheCursor : Obligations.DmaReadReturnsTheWordsAtTheCursor := by
  intro n s
  exact ⟨decode_encode_dmaRead n, dmaReadWords n s, _, exec_dmaRead n s, rfl, advance_toNat _ _, readWords_length _ _ _,
    fun _ h => dmaReadWords_getElem_toNat n s h⟩

end Sys2Proof.Machine

/-! PROOF of O33, O34, O36 and O37: key control and the envelope (42_voice_adsr.md). KeyOn and KeyOff enter a phase, so what they do
follows from the PhaseTable with the ADSR fields read as numbers; the tick has one equation for each of its outcomes. -/

namespace Sys2Proof.Machine

/-! ## The ADSR fields as numbers (R32, R33) -/

theorem getLsbD_eq_decide {w : Nat} (x : BitVec w) (i : Nat) : x.getLsbD i = decide (x.toNat / 2 ^ i % 2 = 1) :=
  Nat.testBit_eq_decide_div_mod_eq

theorem extractLsb'_toNat_eq {w : Nat} (x : BitVec w) (i n : Nat) : (x.extractLsb' i n).toNat = x.toNat / 2 ^ i % 2 ^ n := by
  rw [BitVec.extractLsb'_toNat, Nat.shiftRight_eq_div_pow]

/-- The top bit of a half-word needs no remainder. -/
theorem half_getLsbD_top (x : Half) : x.getLsbD 15 = decide (x.toNat / 2 ^ 15 = 1) := by
  have : x.toNat / 2 ^ 15 % 2 = x.toNat / 2 ^ 15 := by omega
  rw [getLsbD_eq_decide, this]

theorem attackExp_eq (low : Half) : attackExp low = decide (low.toNat / 2 ^ 15 = 1) := half_getLsbD_top low
theorem attackExp_eq_msb (low : Half) : attackExp low = low.msb := (BitVec.msb_eq_getLsbD_last low).symm

theorem attackShift_eq (low : Half) : attackShift low = low.toNat / 2 ^ 10 % 32 := extractLsb'_toNat_eq low 10 5
theorem attackStep_eq (low : Half) : attackStep low = low.toNat / 2 ^ 8 % 4 := extractLsb'_toNat_eq low 8 2
theorem decayShift_eq (low : Half) : decayShift low = low.toNat / 2 ^ 4 % 16 := extractLsb'_toNat_eq low 4 4

theorem sustainLevel_eq (low : Half) : sustainLevel low = low.toNat % 16 := by
  simp [sustainLevel]

theorem sustainExp_eq (high : Half) : sustainExp high = decide (high.toNat / 2 ^ 15 = 1) := half_getLsbD_top high

theorem sustainDirDecrease_eq (high : Half) : sustainDirDecrease high = decide (high.toNat / 2 ^ 14 % 2 = 1) :=
  getLsbD_eq_decide high 14

theorem sustainShift_eq (high : Half) : sustainShift high = high.toNat / 2 ^ 8 % 32 := extractLsb'_toNat_eq high 8 5
theorem releaseExp_eq (high : Half) : releaseExp high = decide (high.toNat / 2 ^ 5 % 2 = 1) := getLsbD_eq_decide high 5

theorem releaseShift_eq (high : Half) : releaseShift high = high.toNat % 32 := by
  simp [releaseShift]

/-! ## The parameters of a phase (R131) -/

/-- `raw_step` is -8 to 7, whichever way the level moves. -/
theorem rawStep_mem {t : AdsrTarget} (h : t.step ≤ 7) : -8 ≤ rawStep t ∧ rawStep t ≤ 7 := by
  unfold rawStep
  split <;> omega

/-- `adsr_step` is -16384 to 14336 (R40): `raw_step` times at most 2048. -/
theorem phaseStep_mem {t : AdsrTarget} (h : t.step ≤ 7) : -16384 ≤ phaseStep t ∧ phaseStep t ≤ 14336 := by
  obtain ⟨hlo, hhi⟩ := rawStep_mem h
  have hpos : (0 : Int) ≤ 2 ^ (11 - t.shift) := by positivity
  have hle : (2 : Int) ^ (11 - t.shift) ≤ 2 ^ 11 := pow_le_pow_right₀ (by omega) (by omega)
  have lower := mul_le_mul_of_nonneg_right hlo hpos
  have upper := mul_le_mul_of_nonneg_right hhi hpos
  rw [phaseStep]
  omega

/-- From shift 11 on the step is `raw_step` itself. -/
theorem phaseStep_of_le_shift {t : AdsrTarget} (h : 11 ≤ t.shift) : phaseStep t = rawStep t := by
  rw [phaseStep, Nat.sub_eq_zero_of_le h, pow_zero, mul_one]

/-- Up to shift 11 the voice updates at every tick. -/
theorem phaseTicks_of_shift_le {t : AdsrTarget} (h : t.shift ≤ 11) : (phaseTicks t).toNat = 1 := by
  rw [phaseTicks_toNat (by omega), Nat.sub_eq_zero_of_le h, pow_zero]

/-- Settles O36: the row of the phase with its fields as numbers, then what its `shift` and `step` bound. -/
theorem enterPhaseDerivesTheTableParameters : Obligations.EnterPhaseDerivesTheTableParameters := by
  intro v p
  have hshift := phaseTarget_shift_le p v.adsrLow v.adsrHigh
  have hstep := phaseTarget_step_le p v.adsrLow v.adsrHigh
  refine ⟨rfl, ?row, phaseTicks_toNat hshift, phaseTicks_pos hshift, phaseTicks_le hshift,
    fun h => ⟨phaseTicks_of_shift_le h, rfl⟩, phaseStep_of_le_shift, phaseStep_mem hstep⟩
  case row =>
    rw [Voice.enterPhase_target]
    cases p with
    | off => rfl
    | attack => simp only [phaseTarget, attackStep_eq, attackShift_eq, attackExp_eq]
    | decay => simp only [phaseTarget, sustainLevel_eq, decayShift_eq, Int.natCast_mod, Nat.cast_ofNat]
    | sustain => simp only [phaseTarget, sustainDirDecrease_eq, sustainShift_eq, sustainExp_eq, decide_eq_true_eq]
    | release => simp only [phaseTarget, releaseShift_eq, releaseExp_eq]

/-! ## Key control (R128, R129) -/

/-- Settles O33: KeyOn of the voice is EnterPhase(Attack) of the restarted voice, and the ENDX clear is apart from the voices. -/
theorem keyOnRestartsTheVoice : Obligations.KeyOnRestartsTheVoice := by
  intro p v s x shift step
  have hshift : attackShift x.adsrLow = shift := attackShift_eq _
  have hstep : attackStep x.adsrLow + 4 = step := congrArg (· + 4) (attackStep_eq _)
  refine ⟨?_, clearEndx_getLsbD p v s⟩
  rw [← hshift, ← hstep, ← attackExp_eq_msb]
  exact onlyVoice_mapVoice v Voice.keyOn (clearEndxOnKeyOn p v s)

/-- A voice that an operation leaves as it is leaves the state as it is. -/
theorem State.mapVoice_of_fixed {s : State} {v : VoiceId} {f : Voice → Voice} (h : f (s.voice v) = s.voice v) :
    s.mapVoice v f = s := by
  rw [State.mapVoice, h, State.setVoice, State.voice]
  exact congrArg (fun voices => { s with voices }) (Vector.set_getElem_self v.isLt)

theorem Voice.keyOff_of_off {x : Voice} (h : x.phase = .off) : x.keyOff = x := if_pos h

theorem Voice.keyOff_of_on {x : Voice} (h : x.phase ≠ .off) : x.keyOff = x.enterPhase .release := if_neg h

/-- Settles O34: an Off voice stays as it is, and KeyOff of an on voice is EnterPhase(Release). -/
theorem keyOffReleasesAnOnVoice : Obligations.KeyOffReleasesAnOnVoice := by
  intro v s x shift
  refine ⟨fun hoff => State.mapVoice_of_fixed (Voice.keyOff_of_off hoff), fun hon => ?_⟩
  have hshift : releaseShift x.adsrHigh = shift := releaseShift_eq _
  have hexp : releaseExp x.adsrHigh = decide (x.adsrHigh.toNat / 32 % 2 = 1) := releaseExp_eq _
  have only := onlyVoice_mapVoice v Voice.keyOff s
  rw [Voice.keyOff_of_on hon] at only
  rw [← hshift, ← hexp]
  exact only

/-! ## The envelope tick (R133) -/

theorem reachedTarget_iff (t : AdsrTarget) (new : Int) :
    reachedTarget t new = true ↔
      (t.decreasing = true ∧ new ≤ t.level) ∨ (t.decreasing = false ∧ t.level ≤ new) := by
  unfold reachedTarget
  cases t.decreasing <;> simp

/-- The new level is stored as it is, so the register reads as the clamped sum. -/
theorem toInt_toS16_nextLevel (v : Voice) : (toS16 v.nextLevel).toInt = v.nextLevel := by
  obtain ⟨hlo, hhi⟩ := v.nextLevel_mem
  exact toInt_toS16 (by omega) hhi

theorem Voice.tickAdsr_of_counting {v : Voice} (h : v.adsrTicksRemaining ≠ 1#32) :
    v.tickAdsr = { v with adsrTicksRemaining := v.adsrTicksRemaining - 1 } :=
  if_pos (sub_ne_zero.mpr h)

/-- The update that ends a phase. EnterPhase overwrites the count, so the 0 it was at is not seen. -/
theorem Voice.tickAdsr_of_reached {v : Voice} (h : v.adsrTicksRemaining = 1#32) (hs : v.phase ≠ .sustain)
    (hr : reachedTarget v.target v.nextLevel = true) :
    v.tickAdsr = Voice.enterPhase { v with adsrVolume := toS16 v.nextLevel } (nextPhase v.phase) :=
  (if_neg (not_not_intro (sub_eq_zero.mpr h))).trans (if_pos ⟨hs, hr⟩)

theorem Voice.tickAdsr_of_not_reached {v : Voice} (h : v.adsrTicksRemaining = 1#32)
    (hr : v.phase = .sustain ∨ ¬reachedTarget v.target v.nextLevel = true) :
    v.tickAdsr = { v with adsrVolume := toS16 v.nextLevel, adsrTicksRemaining := v.adsrTicks } :=
  (if_neg (not_not_intro (sub_eq_zero.mpr h))).trans (if_neg fun ⟨hs, hreached⟩ => hr.elim hs (· hreached))

/-- Every update stores the new level, whether or not it ends the phase. -/
theorem Voice.tickAdsr_adsrVolume {v : Voice} (h : v.adsrTicksRemaining = 1#32) :
    v.tickAdsr.adsrVolume = toS16 v.nextLevel := by
  by_cases hr : v.phase = .sustain ∨ ¬reachedTarget v.target v.nextLevel = true
  · rw [Voice.tickAdsr_of_not_reached h hr]
  · obtain ⟨hs, hreached⟩ := not_or.mp hr
    rw [Voice.tickAdsr_of_reached h hs (not_not.mp hreached), Voice.enterPhase_adsrVolume]

/-- Settles O37: the tick counts down, ends the phase or reloads the count, and the three phases that can end have a successor each
(R130). -/
theorem envelopeTickFollowsTheRecurrence : Obligations.EnvelopeTickFollowsTheRecurrence := by
  intro v _ new reached
  refine ⟨Voice.tickAdsr_of_counting, fun h => ?_⟩
  have hreached : reachedTarget v.target v.nextLevel = true ↔ reached := reachedTarget_iff v.target v.nextLevel
  have enters {p : Phase} (hp : v.phase = p) (hs : p ≠ .sustain) (hr : reached) :
      v.tickAdsr = Voice.enterPhase { v with adsrVolume := toS16 v.nextLevel } (nextPhase p) :=
    hp ▸ Voice.tickAdsr_of_reached h (hp ▸ hs) (hreached.mpr hr)
  rw [Voice.tickAdsr_adsrVolume h]
  exact ⟨toInt_toS16_nextLevel v,
    fun ⟨hp, hr⟩ => enters hp (by decide) hr,
    fun ⟨hp, hr⟩ => enters hp (by decide) hr,
    fun ⟨hp, hr⟩ => enters hp (by decide) hr,
    fun hr => Voice.tickAdsr_of_not_reached h (hr.imp_right (mt hreached.mp))⟩

end Sys2Proof.Machine

/-! PROOF of O39 and O41: the ADPCM block (43_adpcm.md). The unclamped predictor outputs are a sequence of their own, and decoding a
block's first nibbles stores its values clamped; a fetch is that decode of the bytes at the voice's address. -/

namespace Sys2Proof.Machine

/-! ## The fields of a block as numbers (R68, R69, R137) -/

theorem blockShift_eq (blk : Block) : blockShift blk = (blk 0).toNat % 16 := by
  simp [blockShift]

theorem blockFilter_eq (blk : Block) : blockFilter blk = min ((blk 0).toNat / 16 % 8) 4 :=
  congrArg (min · 4) (extractLsb'_toNat_eq (blk 0) 4 3)

theorem blockFlagsOf_eq (blk : Block) :
    blockFlagsOf blk =
      { loopEnd := decide ((blk 1).toNat % 2 = 1), loopRepeat := decide ((blk 1).toNat / 2 % 2 = 1),
        loopStart := decide ((blk 1).toNat / 4 % 2 = 1) } := by
  simp only [blockFlagsOf, getLsbD_eq_decide, pow_zero, Nat.div_one, pow_one, Nat.reducePow]

/-- Even nibbles are the low halves of their bytes, odd nibbles the high halves. -/
theorem blockNibble_toNat (blk : Block) (n : Fin 28) :
    (blockNibble blk n).toNat =
      if n.val % 2 = 0 then (blk ⟨2 + n.val / 2, by omega⟩).toNat % 16 else (blk ⟨2 + n.val / 2, by omega⟩).toNat / 16 := by
  rw [blockNibble, extractLsb'_toNat_eq]
  rcases Nat.mod_two_eq_zero_or_one n.val with even | odd
  · simp [even]
  · have hbyte := (blk ⟨2 + n.val / 2, by omega⟩).isLt
    simp only [odd, one_ne_zero, if_false, Nat.mul_one, Nat.reducePow]
    omega

/-- A nibble read as a signed number. -/
theorem nibble_toInt (x : BitVec 4) : x.toInt = if (x.toNat : Int) < 8 then (x.toNat : Int) else x.toNat - 16 := by
  rw [BitVec.toInt_eq_toNat_cond]
  split <;> split <;> omega

/-! ## The predictor sequence (R138 to R140) -/

theorem predictorPos_eq_getD {f : Nat} (h : f ≤ 4) : predictorPos f = [0, 60, 115, 98, 122].getD f 0 := by
  interval_cases f <;> rfl

theorem predictorNeg_eq_getD {f : Nat} (h : f ≤ 4) : predictorNeg f = [0, 0, -52, -55, -60].getD f 0 := by
  interval_cases f <;> rfl

/-- The unclamped predictor outputs of a block, after the two the decoder starts with, oldest first. Past the last nibble the
sequence goes round the block again, where nothing looks. -/
def Decoder.history (blk : Block) (d : Decoder) : Nat → Int
  | 0 => d.last1
  | 1 => d.last0
  | n + 2 =>
    predict (blockFilter blk) (quantize (blockNibble blk (Fin.ofNat 28 n)) (blockShift blk))
      (d.history blk (n + 1)) (d.history blk n)

theorem Decoder.history_add_two (blk : Block) (d : Decoder) (n : Fin 28) :
    d.history blk (n.val + 2) =
      predict (blockFilter blk) (quantize (blockNibble blk n) (blockShift blk))
        (d.history blk (n.val + 1)) (d.history blk n.val) := by
  rw [history, Fin.ofNat_val_eq_self]

/-- The decoder after the first `n` nibbles. -/
def Decoder.after (blk : Block) (d : Decoder) (n : Nat) : Decoder := (sampleIndices.take n).foldl (decodeSample blk) d

theorem Decoder.after_succ (blk : Block) (d : Decoder) (n : Fin 28) :
    d.after blk (n.val + 1) = decodeSample blk (d.after blk n.val) n := by
  have hn : n.val < sampleIndices.length := n.isLt
  have hget : sampleIndices[n.val] = n := List.getElem_finRange ..
  rw [after, List.take_succ_eq_append_getElem hn, hget, List.foldl_concat, after]

theorem decodeSamples_eq_after (blk : Block) (d : Decoder) : decodeSamples blk d = d.after blk 28 := rfl

/-- After `n` nibbles the decoder's history is the sequence's values `n` and `n + 1`, and the samples so far are its values clamped. -/
theorem Decoder.after_eq_history (blk : Block) (d : Decoder) {n : Nat} (hn : n ≤ 28) :
    (d.after blk n).last0 = d.history blk (n + 1) ∧ (d.after blk n).last1 = d.history blk n ∧
      ∀ i : Fin 28, i.val < n → (d.after blk n).samples[i] = toS16 (clampS16 (d.history blk (i.val + 2))) := by
  induction n with
  | zero => exact ⟨rfl, rfl, fun _ hi => absurd hi (Nat.not_lt_zero _)⟩
  | succ n ih =>
    obtain ⟨hlast0, hlast1, hsamples⟩ := ih (by omega)
    have step : d.after blk (n + 1) =
        { samples := (d.after blk n).samples.set n (toS16 (clampS16 (d.history blk (n + 2)))),
          last0 := d.history blk (n + 2), last1 := d.history blk (n + 1) } := by
      rw [d.after_succ blk ⟨n, hn⟩, d.history_add_two blk ⟨n, hn⟩, decodeSample, hlast0, hlast1]
    rw [step]
    refine ⟨rfl, rfl, fun i hi => ?_⟩
    by_cases heq : i.val = n
    · subst heq
      exact Vector.getElem_set_self hn
    · exact (Vector.getElem_set_ne hn i.isLt (Ne.symm heq)).trans (hsamples i (by omega))

/-- One step of the sequence with the tables, the quantizer and the nibble written out as numbers. -/
theorem Decoder.history_step (blk : Block) (d : Decoder) (n : Fin 28) :
    let head := (blk 0).toNat
    let filter := min (head / 16 % 8) 4
    let byte := (blk ⟨2 + n.val / 2, by omega⟩).toNat
    let x : Int := (if n.val % 2 = 0 then byte % 16 else byte / 16 : Nat)
    let signed : Int := if x < 8 then x else x - 16
    d.history blk (n.val + 2) = signed * 4096 / 2 ^ (head % 16) +
      Int.tdiv (d.history blk (n.val + 1) * [0, 60, 115, 98, 122].getD filter 0 +
        d.history blk n.val * [0, 0, -52, -55, -60].getD filter 0 + 32) 64 := by
  intro head filter byte x signed
  have hfilter : filter ≤ 4 := Nat.min_le_right _ _
  have hsigned : (blockNibble blk n).toInt = signed := by rw [nibble_toInt, blockNibble_toNat]
  rw [d.history_add_two, predict, blockFilter_eq, blockShift_eq, predictorPos_eq_getD hfilter, predictorNeg_eq_getD hfilter,
    quantize, hsigned]
  rfl

/-- Settles O39: the decoder after all 28 nibbles, with the block's fields as numbers. -/
theorem blockDecodeFollowsThePredictor : Obligations.BlockDecodeFollowsThePredictor := by
  intro v blk
  let d : Decoder := { samples := v.blockSamples, last0 := v.last0, last1 := v.last1 }
  obtain ⟨hlast0, hlast1, hsamples⟩ := d.after_eq_history blk le_rfl
  refine ⟨d.history blk, rfl, rfl, fun n => ⟨d.history_step blk n, ?sample⟩, ?voice⟩
  case sample =>
    rw [Voice.decodeBlock_blockSamples, decodeSamples_eq_after, hsamples n n.isLt, toInt_toS16_clampS16]
    rfl
  case voice =>
    rw [← hlast0, ← hlast1, ← blockFlagsOf_eq]
    rfl

/-! ## The fetch (R135, R150) -/

/-- A fetch reads the 16 bytes from 8 times the voice address on, modulo `RAM_SIZE`. -/
theorem blockAt_eq_readByte (s : State) (a : Half) : blockAt s.ram a = fun j => s.readByte (8 * a.toNat + j.val) := by
  funext j
  rw [← addressIndex_toNat, readByte_toNat_add, blockAt]

/-- Taking a block is decoding it, but for `has_samples` and the repeat address. -/
theorem Voice.takeBlock_eq (v : Voice) (blk : Block) :
    v.takeBlock blk =
      { v.decodeBlock blk with
        hasSamples := true
        repeatAddress := if (blk 1).toNat / 4 % 2 = 1 then v.currentAddress else v.repeatAddress } := by
  have hstart : (v.decodeBlock blk).blockFlags.loopStart = decide ((blk 1).toNat / 4 % 2 = 1) := by
    rw [Voice.decodeBlock_blockFlags, blockFlagsOf_eq]
  rw [← v.decodeBlock_currentAddress blk, ← v.decodeBlock_repeatAddress blk, Voice.takeBlock]
  generalize v.decodeBlock blk = u at hstart ⊢
  by_cases h : (blk 1).toNat / 4 % 2 = 1
  · simp [hstart, h]
  · simp [hstart, h]

/-- Settles O41: a fetch, where there is one, changes the voice alone after the IRQ check, by the block at its address. -/
theorem fetchReadsDecodesAndLatchesTheRepeatAddress : Obligations.FetchReadsDecodesAndLatchesTheRepeatAddress := by
  intro i s x blk
  rcases fetchStep_cases i s with ⟨has, hfetch⟩ | ⟨hasNone, hfetch⟩
  · exact ⟨fun _ => hfetch, fun hasNone => absurd (has.symm.trans hasNone) (by decide)⟩
  · refine ⟨fun has => absurd (has.symm.trans hasNone) (by decide), fun _ => ?_⟩
    have only := onlyVoice_mapVoice i (fun v => v.takeBlock (blockAt s.ram v.currentAddress)) (irqCheck x.currentAddress s)
    rw [← hfetch, irqCheck_voice, blockAt_eq_readByte, Voice.takeBlock_eq] at only
    exact only

end Sys2Proof.Machine

/-! PROOF of O43, O44, O46, O50 and O57: the sample generator (44_sample_generator.md). The mix of the 24 voices is followed voice by
voice, so that each channel is the sum of what the voices add; the interpolator's buffer is the three kept samples and the 28 of the
block in one list. -/

namespace Sys2Proof

theorem decode_encode_cdPush (l r : Half) : decode (encode (.cdPush l r)) = .ok (.cdPush l r) :=
  decode_control (by decide) (by decide) (by decide) _

end Sys2Proof

namespace Sys2Proof.Machine

/-! ## The CD FIFO (R161) -/

theorem cdPush_of_full {p : Config.Params} {s : State} (h : s.cdFifo.length = p.cdFifoCapacity) (f : Frame) :
    cdPush p f s = { s.diag .cdFifoOverflow with cdFifo := s.cdFifo.tail ++ [f] } := if_pos h

theorem cdPush_of_not_full {p : Config.Params} {s : State} (h : s.cdFifo.length ≠ p.cdFifoCapacity) (f : Frame) :
    cdPush p f s = { s with cdFifo := s.cdFifo ++ [f] } := if_neg h

theorem exec_cdPush (l r : Half) (s : State) :
    exec (.cdPush l r) s = .next ((cdPush Config.params { left := l, right := r } s).withReply .none) := rfl

/-- Settles O57: the two cases of a push, by whether the FIFO is full. -/
theorem cdPushAppendsAndDropsTheOldestWhenFull : Obligations.CdPushAppendsAndDropsTheOldestWhenFull := by
  intro l r s
  rw [exec_cdPush]
  refine ⟨decode_encode_cdPush l r, fun notFull => ?_, fun full => ?_⟩
  · rw [cdPush_of_not_full notFull]
    rfl
  · rw [cdPush_of_full full, List.drop_one]
    rfl

/-! ## A voice that is Off (R149) -/

theorem sampleVoice_of_off (p : Config.Params) {i : VoiceId} {s : State} (h : (s.voice i).phase = .off) :
    sampleVoice p i s = { state := s, left := 0, right := 0 } := if_neg (by simp [Voice.isOn, h])

/-- Settles O44: a voice that is Off is passed over. -/
theorem offVoiceIsSilentAndUnchanged : Obligations.OffVoiceIsSilentAndUnchanged := by
  intro p i s off
  rw [sampleVoice_of_off p off]
  exact ⟨rfl, rfl, rfl⟩

/-! ## The block end (R152 to R155) -/

/-- Two changes of one voice are one change. -/
theorem State.mapVoice_mapVoice (s : State) (v : VoiceId) (f g : Voice → Voice) :
    (s.mapVoice v f).mapVoice v g = s.mapVoice v (fun x => g (f x)) := by
  rw [State.mapVoice, State.voice_mapVoice_self]
  simp [State.mapVoice, State.setVoice]

/-- The last block of a sound: the ENDX bit, and the voice that left the block is keyed off. -/
theorem onlyVoice_keyOff_leaveBlock (i : VoiceId) (s : State) :
    OnlyVoice i (s.voice i).leaveBlock.keyOff { s with endx := s.endx ||| 1#32 <<< i.val }
      (keyOff i (setEndx i (s.mapVoice i Voice.leaveBlock))) := by
  have both : keyOff i (setEndx i (s.mapVoice i Voice.leaveBlock)) =
      (setEndx i s).mapVoice i (fun x => x.leaveBlock.keyOff) :=
    (setEndx i s).mapVoice_mapVoice i Voice.leaveBlock Voice.keyOff
  rw [both]
  exact onlyVoice_mapVoice i _ (setEndx i s)

/-- Settles O43: each way step 4 can go meets the one clause its flags select. -/
theorem blockEndFollowsTheLoopFlags : Obligations.BlockEndFollowsTheLoopFlags := by
  intro i s x left
  rcases blockEndStep_cases i s with
    ⟨inside, h⟩ | ⟨ended, loopEnd, loopRepeat, h⟩ | ⟨ended, loopEnd, loopRepeat, h⟩ | ⟨ended, loopEnd, h⟩
  case inl => exact ⟨fun _ => h, fun ended => absurd inside (not_lt.mpr ended)⟩
  all_goals
    refine ⟨fun inside => absurd inside (not_lt.mpr ended), fun _ => ?_⟩
    rw [h]
  case inr.inl =>
    exact ⟨fun noEnd => absurd (loopEnd.symm.trans noEnd) (by decide), fun _ _ => onlyVoice_mapVoice i _ s,
      fun _ noRepeat => absurd (loopRepeat.symm.trans noRepeat) (by decide)⟩
  case inr.inr.inl =>
    exact ⟨fun noEnd => absurd (loopEnd.symm.trans noEnd) (by decide),
      fun _ repeats => absurd (loopRepeat.symm.trans repeats) (by decide), fun _ _ => onlyVoice_keyOff_leaveBlock i s⟩
  case inr.inr.inr =>
    exact ⟨fun _ => onlyVoice_mapVoice i _ s, fun ends => absurd (loopEnd.symm.trans ends) (by decide),
      fun ends => absurd (loopEnd.symm.trans ends) (by decide)⟩

/-! ## Interpolation (R156, R157) -/

theorem wrap16_eq_bmod (x : Int) : wrap16 x = Int.bmod x 65536 := BitVec.toInt_ofInt x

theorem gaussTap_eq_bmod (p : Config.Params) (g : Nat) (x : Int) :
    gaussTap p g x = Int.bmod ((p.gauss (Fin.ofNat 512 g)).toInt * x / 32768) 65536 := wrap16_eq_bmod _

/-- The samples the interpolator reads, oldest first: the three kept from the block before and the 28 of this one. -/
def Voice.sampleBuffer (v : Voice) : List Half := v.prevSamples.toList ++ v.blockSamples.toList

/-- Position `n - 3` relative to the block is entry `n` of the buffer. -/
theorem Voice.sampleBlock_eq_getD (v : Voice) (n : Nat) : v.sampleBlock ((n : Int) - 3) = (v.sampleBuffer.getD n 0).toInt := by
  have hprev : v.prevSamples.toList.length = 3 := Vector.length_toList
  rw [Voice.sampleBlock, Voice.sampleBuffer]
  by_cases kept : n < 3
  · have hindex : ((n : Int) - 3 + 3).toNat = n := by omega
    rw [if_pos (by omega), hindex, List.getD_append _ _ _ _ (by omega)]
  · have hindex : ((n : Int) - 3).toNat = n - 3 := by omega
    rw [if_neg (by omega), hindex, List.getD_append_right _ _ _ _ (by omega), hprev]

/-- Settles O46: the four taps are four entries of the buffer in a row. -/
theorem interpolationIsTheFourTapSum : Obligations.InterpolationIsTheFourTapSum := by
  intro p v _ k ix buffer tap
  have tap_eq (g j : Nat) (m : Int) (h : m = (j : Int) - 3) : gaussTap p g (v.sampleBlock m) = tap g j := by
    rw [h, v.sampleBlock_eq_getD, gaussTap_eq_bmod]
    rfl
  rw [Voice.interpolate, sampleIndex_eq, interpolationIndex_eq, wrap16_eq_bmod, Nat.zero_add,
    tap_eq _ k _ rfl, tap_eq _ (k + 1) _ (by omega), tap_eq _ (k + 2) _ (by omega), tap_eq _ (k + 3) _ (by omega)]

/-! ## A voice leaves the frames and the CD FIFO alone (R148) -/

/-- The two queues of frames: the stream to the sink and the CD FIFO. -/
def State.frameQueues (s : State) : List Frame × List Frame := (s.frames, s.cdFifo)

theorem frameQueues_mapVoice (s : State) (i : VoiceId) (f : Voice → Voice) : (s.mapVoice i f).frameQueues = s.frameQueues := rfl

theorem frameQueues_fetchStep (i : VoiceId) (s : State) : (fetchStep i s).frameQueues = s.frameQueues := by
  rcases fetchStep_cases i s with ⟨-, h⟩ | ⟨-, h⟩
  · rw [h]
  · rw [h, frameQueues_mapVoice, State.frameQueues, irqCheck_frames, irqCheck_cdFifo, State.frameQueues]

theorem frameQueues_blockEndStep (i : VoiceId) (s : State) : (blockEndStep i s).frameQueues = s.frameQueues := by
  rcases blockEndStep_cases i s with ⟨-, h⟩ | ⟨-, -, -, h⟩ | ⟨-, -, -, h⟩ | ⟨-, -, h⟩ <;> rw [h] <;> rfl

theorem frameQueues_advanceVoice (i : VoiceId) (s : State) : (advanceVoice i s).frameQueues = s.frameQueues := by
  rw [advanceVoice, frameQueues_blockEndStep, frameQueues_mapVoice, frameQueues_fetchStep]

theorem frameQueues_sampleVoice (p : Config.Params) (i : VoiceId) (s : State) :
    (sampleVoice p i s).state.frameQueues = s.frameQueues := by
  unfold sampleVoice
  split
  · exact frameQueues_advanceVoice i s
  · rfl

/-! ## The mix of the voices (R145) -/

/-- The running mix of the voices below `n`. -/
def mixedBefore (p : Config.Params) (s : State) (n : Nat) : Mixed :=
  (allVoices.take n).foldl (mixVoice p) { state := s, left := 0, right := 0 }

theorem mixedBefore_succ (p : Config.Params) (s : State) (i : VoiceId) :
    mixedBefore p s (i.val + 1) = mixVoice p (mixedBefore p s i.val) i := by
  have hi : i.val < allVoices.length := i.isLt
  have hget : allVoices[i.val] = i := List.getElem_finRange ..
  rw [mixedBefore, List.take_succ_eq_append_getElem hi, hget, List.foldl_concat, mixedBefore]

theorem mixedBefore_state_succ (p : Config.Params) (s : State) (i : VoiceId) :
    (mixedBefore p s (i.val + 1)).state = (sampleVoice p i (mixedBefore p s i.val).state).state := by
  rw [mixedBefore_succ, mixVoice]

theorem mixVoices_of_enabled (p : Config.Params) {s : State} (h : s.enable = true) : mixVoices p s = mixedBefore p s 24 := if_pos h

theorem mixVoices_of_disabled (p : Config.Params) {s : State} (h : ¬s.enable = true) :
    mixVoices p s = { state := s, left := 0, right := 0 } := if_neg h

/-- What grows from 0 by a step at each voice is the sum of the steps. -/
theorem eq_sum_of_succ {total : Nat → Int} {step : VoiceId → Int} (zero : total 0 = 0)
    (succ : ∀ i : VoiceId, total (i.val + 1) = total i.val + step i) : total 24 = ∑ i, step i := by
  have hstep (i : VoiceId) : step i = total (i.val + 1) - total i.val := by rw [succ, add_sub_cancel_left]
  calc total 24 = total 24 - total 0 := by rw [zero, sub_zero]
    _ = ∑ n ∈ Finset.range 24, (total (n + 1) - total n) := (Finset.sum_range_sub total 24).symm
    _ = ∑ i : VoiceId, (total (i.val + 1) - total i.val) := (Fin.sum_univ_eq_sum_range (fun n => total (n + 1) - total n) 24).symm
    _ = ∑ i, step i := Finset.sum_congr rfl fun i _ => (hstep i).symm

theorem mixedBefore_left (p : Config.Params) (s : State) :
    (mixedBefore p s 24).left = ∑ i : VoiceId, (sampleVoice p i (mixedBefore p s i.val).state).left :=
  eq_sum_of_succ (total := fun n => (mixedBefore p s n).left) rfl fun i => congrArg Mixed.left (mixedBefore_succ p s i)

theorem mixedBefore_right (p : Config.Params) (s : State) :
    (mixedBefore p s 24).right = ∑ i : VoiceId, (sampleVoice p i (mixedBefore p s i.val).state).right :=
  eq_sum_of_succ (total := fun n => (mixedBefore p s n).right) rfl fun i => congrArg Mixed.right (mixedBefore_succ p s i)

theorem frameQueues_foldl_mixVoice (p : Config.Params) (vs : List VoiceId) (m : Mixed) :
    (vs.foldl (mixVoice p) m).state.frameQueues = m.state.frameQueues := by
  induction vs generalizing m with
  | nil => rfl
  | cons v vs ih => exact (ih _).trans (frameQueues_sampleVoice p v m.state)

theorem frameQueues_mixVoices (p : Config.Params) (s : State) : (mixVoices p s).state.frameQueues = s.frameQueues := by
  unfold mixVoices
  split
  · exact frameQueues_foldl_mixVoice p allVoices _
  · rfl

/-- One sample, from the mix of the voices on: the CD frame is added and the sum clamped once (R145, R147, R162). -/
theorem generateSample_eq (p : Config.Params) (s : State) :
    let m := mixVoices p s
    let cd : Frame := if s.cdAudioEnable then s.cdFifo.headD { left := 0, right := 0 } else { left := 0, right := 0 }
    generateSample p s =
      { m.state with
        cdFifo := if s.cdAudioEnable then s.cdFifo.tail else s.cdFifo
        frames := s.frames ++
          [{ left := toS16 (clampS16 (m.left + cd.left.toInt)), right := toS16 (clampS16 (m.right + cd.right.toInt)) }] } := by
  intro m cd
  obtain ⟨-, henable, -⟩ := (onlySampling_mixVoices p s).enables
  obtain ⟨hframes, hfifo⟩ := Prod.mk.inj (frameQueues_mixVoices p s)
  rw [generateSample, mixCd_eq, henable, hfifo, emitMixed, State.emitFrame, hframes]

/-- Settles O50: the states between the voices are those of the running mix. -/
theorem frameIsTheClampedSumOfTheVoicesAndTheCdFrame : Obligations.FrameIsTheClampedSumOfTheVoicesAndTheCdFrame := by
  intro p s
  refine ⟨fun n => (mixedBefore p s n).state, rfl, mixedBefore_state_succ p s, ?_⟩
  intro enable cdEnable mixed voicesLeft voicesRight cd
  have hmix : mixVoices p s = { state := mixed, left := voicesLeft, right := voicesRight } := by
    by_cases on : enable = true
    · rw [mixVoices_of_enabled p on]
      simp only [mixed, voicesLeft, voicesRight, if_pos on, ← mixedBefore_left, ← mixedBefore_right]
    · rw [mixVoices_of_disabled p on]
      simp only [mixed, voicesLeft, voicesRight, if_neg on]
  rw [generateSample_eq, hmix]
  rfl

end Sys2Proof.Machine

/-! PROOF of O12 and O58: the interrupt (60_exceptions.md). IrqCheck is the one operation that moves the flag or records an event, so
each operation of the sample path keeps both or raises the flag once with its event; a transaction other than RESET is at most one
catch-up and an action that keeps both. -/

namespace Sys2Proof.Machine

/-! ## The IRQ check (R165) -/

/-- The condition of IrqCheck, with the control bit and the addresses as the rule names them. -/
theorem irqCheck_condition_iff (a : Half) (s : State) :
    (s.irq9Enable && irqMatches s.irqAddr a) = true ↔
      s.spucnt.getLsbD 6 = true ∧ (s.irqAddr.toNat = a.toNat ∨ s.irqAddr.toNat = a.toNat + 1) := by
  simp [State.irq9Enable, irqMatches]

/-- Settles O58: a match raises a clear flag and leaves a raised one, and without a match nothing is done. -/
theorem irqCheckMatchesTheBlockAddresses : Obligations.IrqCheckMatchesTheBlockAddresses := by
  intro a s hit
  have condition : (s.irq9Enable && irqMatches s.irqAddr a) = true ↔ hit := irqCheck_condition_iff a s
  refine ⟨fun hhit hclear => ?_, fun hhit hraised => ?_, fun hmiss => ?_⟩
  · rw [irqCheck, if_pos (condition.mpr hhit), if_neg (by simp [hclear])]
    rfl
  · rw [irqCheck, if_pos (condition.mpr hhit), if_pos hraised]
  · rw [irqCheck, if_neg (mt condition.mp hmiss)]

/-! ## What the interrupt controller sees -/

/-- The sticky flag, which is the level of the IRQ line, and the recorded rising edges (R28, R167). -/
def State.irq (s : State) : Bool × List IrqEvent := (s.irq9Flag, s.irqEvents)

/-- From `s` to `t` the flag and the events stay, or a clear flag is raised and one event recorded (R165, R166). -/
inductive IrqKeptOrRaised (s t : State) : Prop
  | kept (same : t.irq = s.irq)
  | raised (clear : s.irq9Flag = false) (rise : t.irq = (true, s.irqEvents ++ [.rise]))

theorem IrqKeptOrRaised.refl (s : State) : IrqKeptOrRaised s s := .kept rfl

/-- A raised flag is not raised again, so one step after another raises the flag at most once. -/
theorem IrqKeptOrRaised.trans {s t u : State} (hst : IrqKeptOrRaised s t) (htu : IrqKeptOrRaised t u) : IrqKeptOrRaised s u := by
  cases hst with
  | kept same =>
    obtain ⟨hflag, hevents⟩ := Prod.mk.inj same
    cases htu with
    | kept same' => exact .kept (same'.trans same)
    | raised clear rise => exact .raised (hflag ▸ clear) (hevents ▸ rise)
  | raised clear rise =>
    cases htu with
    | kept same' => exact .raised clear (same'.trans rise)
    | raised clear' _ =>
      have hflag : t.irq9Flag = true := congrArg Prod.fst rise
      exact absurd hflag (by simp [clear'])

/-- The flag is sticky (R166). -/
theorem IrqKeptOrRaised.sticky {s t : State} (h : IrqKeptOrRaised s t) (hs : s.irq9Flag = true) : t.irq9Flag = true := by
  cases h with
  | kept same => exact (congrArg Prod.fst same).trans hs
  | raised _ rise => exact congrArg Prod.fst rise

/-- The events grow by one exactly when the flag changes from 0 to 1 (R165, R167). -/
theorem IrqKeptOrRaised.events {s t : State} (h : IrqKeptOrRaised s t) :
    t.irqEvents = s.irqEvents ++ (if s.irq9Flag = false ∧ t.irq9Flag = true then [.rise] else []) := by
  cases h with
  | kept same =>
    obtain ⟨hflag, hevents⟩ := Prod.mk.inj same
    rw [if_neg (by simp [hflag]), hevents, List.append_nil]
  | raised clear rise =>
    obtain ⟨hflag, hevents⟩ := Prod.mk.inj rise
    rw [if_pos ⟨clear, hflag⟩, hevents]

/-! ## The sample path raises the flag at most once (R144 to R155) -/

theorem irqCheck_irq (a : Half) (s : State) : IrqKeptOrRaised s (irqCheck a s) := by
  rcases irqCheck_cases a s with h | ⟨hclear, -, -, h⟩ <;> rw [h]
  · exact .refl s
  · exact .raised hclear rfl

theorem fetchStep_irq (i : VoiceId) (s : State) : IrqKeptOrRaised s (fetchStep i s) := by
  rcases fetchStep_cases i s with ⟨-, h⟩ | ⟨-, h⟩ <;> rw [h]
  · exact .refl s
  · exact (irqCheck_irq _ s).trans (.kept rfl)

theorem blockEndStep_irq (i : VoiceId) (s : State) : (blockEndStep i s).irq = s.irq := by
  rcases blockEndStep_cases i s with ⟨-, h⟩ | ⟨-, -, -, h⟩ | ⟨-, -, -, h⟩ | ⟨-, -, h⟩ <;> rw [h] <;> rfl

theorem advanceVoice_irq (i : VoiceId) (s : State) : IrqKeptOrRaised s (advanceVoice i s) :=
  (fetchStep_irq i s).trans (.kept (blockEndStep_irq i _))

theorem sampleVoice_irq (p : Config.Params) (i : VoiceId) (s : State) : IrqKeptOrRaised s (sampleVoice p i s).state := by
  unfold sampleVoice
  split
  · exact (advanceVoice_irq i s).trans (.kept rfl)
  · exact .refl s

theorem foldl_mixVoice_irq (p : Config.Params) (vs : List VoiceId) (m : Mixed) :
    IrqKeptOrRaised m.state (vs.foldl (mixVoice p) m).state := by
  induction vs generalizing m with
  | nil => exact .refl _
  | cons v vs ih => exact (sampleVoice_irq p v m.state).trans (ih (mixVoice p m v))

theorem mixVoices_irq (p : Config.Params) (s : State) : IrqKeptOrRaised s (mixVoices p s).state := by
  unfold mixVoices
  split
  · exact foldl_mixVoice_irq p allVoices { state := s, left := 0, right := 0 }
  · exact .refl s

theorem generateSample_irq (p : Config.Params) (s : State) : IrqKeptOrRaised s (generateSample p s) := by
  refine (mixVoices_irq p s).trans (.kept ?_)
  rw [generateSample_eq]
  rfl

theorem execute_irq (p : Config.Params) (n : Nat) (s : State) : IrqKeptOrRaised s (execute p n s) :=
  execute_induction p (IrqKeptOrRaised s) n s (.kept rfl) fun u h => h.trans (generateSample_irq p u)

theorem voiceCatchUp_irq (p : Config.Params) (v : VoiceId) (n : Nat) (s : State) : IrqKeptOrRaised s (voiceCatchUp p v n s) := by
  unfold voiceCatchUp
  split
  · exact execute_irq p n s
  · exact .refl s

/-! ## The transactions -/

theorem cdPush_irq (p : Config.Params) (f : Frame) (s : State) : (cdPush p f s).irq = s.irq := by
  by_cases h : s.cdFifo.length = p.cdFifoCapacity
  · rw [cdPush_of_full h]
    rfl
  · rw [cdPush_of_not_full h]
    rfl

theorem writeKon_irq (merge : Word → Word) (mask : Word) (s : State) : (writeKon merge mask s).irq = s.irq :=
  (congrArg State.irq (writeKon_frame merge mask s)).trans rfl

theorem writeKoff_irq (merge : Word → Word) (mask : Word) (s : State) : (writeKoff merge mask s).irq = s.irq :=
  (congrArg State.irq (writeKoff_frame merge mask s)).trans rfl

/-- The transaction completes, and keeps the flag and the events or raises the flag once. -/
def CompletesWithIrqKeptOrRaised (o : Host.Outcome State Fault Refusal) (s : State) : Prop :=
  ∃ t, o = .next t ∧ IrqKeptOrRaised s t

theorem completes_of_irq_eq {s t : State} (h : t.irq = s.irq) : CompletesWithIrqKeptOrRaised (.next t) s := ⟨t, rfl, .kept h⟩

/-- A voice-register write moves the IRQ by its catch-up alone. -/
theorem writeVoice_irq (v : VoiceId) (n : Nat) (store : Voice → Voice) (s : State) :
    CompletesWithIrqKeptOrRaised (writeVoice v n store s) s := ⟨_, rfl, (voiceCatchUp_irq _ v n s).trans (.kept rfl)⟩

/-- A synchronized write of a global register moves the IRQ by its catch-up alone. -/
theorem writeGlobal_irq {act : State → State} (h : ∀ u, (act u).irq = u.irq) (n : Nat) (s : State) :
    CompletesWithIrqKeptOrRaised (writeGlobal n act s) s := ⟨_, rfl, (execute_irq _ n s).trans (.kept (h _))⟩

theorem exec_irq {i : Instr} (hi : i ≠ .reset) (s : State) : CompletesWithIrqKeptOrRaised (exec i s) s := by
  cases i with
  | reset => exact absurd rfl hi
  | execute n => exact ⟨_, rfl, (execute_irq _ n s).trans (.kept rfl)⟩
  | wrVolL v _ n | wrVolR v _ n | wrPitch v _ n | wrSaddr v _ n | wrAdsrLo v _ n | wrAdsrHi v _ n | wrAdsrVol v _ n
  | wrRaddr v _ n => exact writeVoice_irq v n _ s
  | wrMvolL _ n | wrMvolR _ n | wrEonLo _ n | wrEonHi _ n => exact writeGlobal_irq (fun _ => by rfl) n s
  | wrKonLo d n => exact writeGlobal_irq (writeKon_irq (mergeLow · d) (lowMask d)) n s
  | wrKonHi d n => exact writeGlobal_irq (writeKon_irq (mergeHigh · d) (highMask d)) n s
  | wrKoffLo d n => exact writeGlobal_irq (writeKoff_irq (mergeLow · d) (lowMask d)) n s
  | wrKoffHi d n => exact writeGlobal_irq (writeKoff_irq (mergeHigh · d) (highMask d)) n s
  | cdPush l r => exact completes_of_irq_eq (cdPush_irq Config.params { left := l, right := r } s)
  | _ => exact completes_of_irq_eq rfl

theorem exec_reset (s : State) : exec .reset s = .next ((resetBlock s).withReply .none) := rfl

/-- Settles O12: a transaction other than RESET raises the flag at most once, and RESET is the reset state with the history kept. -/
theorem irqFlagIsStickyAndEachRiseIsRecorded : Obligations.IrqFlagIsStickyAndEachRiseIsRecorded := by
  intro i s t hexec
  refine ⟨fun hi => ?_, ?_⟩
  · obtain ⟨u, hu, hirq⟩ := exec_irq hi s
    obtain rfl : u = t := Host.Outcome.next.inj (hu.symm.trans hexec)
    exact ⟨hirq.sticky, hirq.events⟩
  · rintro rfl
    obtain rfl := Host.Outcome.next.inj ((exec_reset s).symm.trans hexec)
    exact ⟨rfl, rfl⟩

end Sys2Proof.Machine

/-! PROOF of O59: the reset (70_reset_and_hazards.md section 1). RESET answers the reset state with the output history put back; the
RAM of the reset state lists no byte and its 24 voices are one reset voice, so every byte and every voice can be read off it. -/

namespace Sys2Proof

theorem decode_encode_reset : decode (encode .reset) = .ok .reset :=
  decode_control (by decide) (by decide) (by decide) _

end Sys2Proof

namespace Sys2Proof.Machine

/-- A byte of a RAM that lists none is the byte after reset (R29). -/
theorem readByte_of_ram_nil {s : State} (h : s.ram = []) (a : Nat) : s.readByte a = 0x00 := by
  rw [State.readByte, h, Memory.read, Memory.background]

@[simp] theorem State.resetBlock_readByte (s : State) (a : Nat) : (resetBlock s).readByte a = 0x00 := readByte_of_ram_nil rfl a

/-- The voices are no part of what `Reset()` puts back. -/
@[simp] theorem State.resetBlock_voice (s : State) (v : VoiceId) : (resetBlock s).voice v = Voice.reset := State.reset_voice v

/-- Settles O59: the fields are those of the reset state, then the RAM byte by byte and the voices voice by voice. -/
theorem resetRestoresEveryResetValue : Obligations.ResetRestoresEveryResetValue := by
  intro s
  have bytes (a : Nat) : ((resetBlock s).withReply .none).readByte a = 0x00 := s.resetBlock_readByte a
  have voices (v : VoiceId) : ((resetBlock s).withReply .none).voice v = Voice.reset := s.resetBlock_voice v
  exact ⟨decode_encode_reset, _, exec_reset s, rfl, rfl, rfl, rfl, rfl, rfl, rfl, rfl, rfl, rfl, rfl, rfl, rfl, rfl, rfl,
    bytes, voices⟩

end Sys2Proof.Machine

/-! PROOF of O1 to O3 and O5: the encoding (30_encoding.md). The two register directions are inverse offset by offset: the encoder
gives back the offset at which a row was decoded, so a word is restored field by field. -/

namespace Sys2Proof

/-! ## Decoding an encoded transaction -/

theorem decode_encode_execute (n : Nat) : decode (encode (.execute n)) = .ok (.execute n) :=
  decode_control (by decide) (by decide) (by decide) _

/-- Settles O1: a voice register by its number, a global register by its offset, an unknown offset as such, and the other kinds by
the kind alone. -/
theorem decodeOfEncodeIsTheTransaction : Obligations.DecodeOfEncodeIsTheTransaction := by
  intro i hi
  cases i with
  | rdVolL v => exact decode_rd_voice v 0
  | rdVolR v => exact decode_rd_voice v 1
  | rdPitch v => exact decode_rd_voice v 2
  | rdSaddr v => exact decode_rd_voice v 3
  | rdAdsrLo v => exact decode_rd_voice v 4
  | rdAdsrHi v => exact decode_rd_voice v 5
  | rdAdsrVol v => exact decode_rd_voice v 6
  | rdRaddr v => exact decode_rd_voice v 7
  | wrVolL v d n => exact decode_wr_voice v 0 d n
  | wrVolR v d n => exact decode_wr_voice v 1 d n
  | wrPitch v d n => exact decode_wr_voice v 2 d n
  | wrSaddr v d n => exact decode_wr_voice v 3 d n
  | wrAdsrLo v d n => exact decode_wr_voice v 4 d n
  | wrAdsrHi v d n => exact decode_wr_voice v 5 d n
  | wrAdsrVol v d n => exact decode_wr_voice v 6 d n
  | wrRaddr v d n => exact decode_wr_voice v 7 d n
  | rdMvolL | rdMvolR | rdKonLo | rdKonHi | rdKoffLo | rdKoffHi | rdEonLo | rdEonHi | rdEndxLo | rdEndxHi | rdIrqAddr | rdTaddr
  | rdTdata | rdSpucnt | rdSpustat => exact decode_rd_global (by decide)
  | wrMvolL d n | wrMvolR d n | wrKonLo d n | wrKonHi d n | wrKoffLo d n | wrKoffHi d n | wrEonLo d n | wrEonHi d n =>
    exact decode_wr_global (by decide) d n
  | wrEndxLo d | wrEndxHi d | wrIrqAddr d | wrTaddr d | wrTdata d | wrSpucnt d | wrSpustat d =>
    exact decode_wr_global (by decide) d 0
  | rdUnknown off => exact (decode_rd off).trans (decodeRegRead_unknown hi)
  | wrUnknown off d => exact (decode_wr off d 0).trans (decodeRegWrite_unknown hi d 0)
  | dmaRead n => exact decode_encode_dmaRead n
  | dmaWrite ws => exact decode_encode_dmaWrite ws
  | execute n => exact decode_encode_execute n
  | cdPush l r => exact decode_encode_cdPush l r
  | reset => exact decode_encode_reset

/-! ## The offsets of the register window (R62 to R64) -/

theorem regOfOffset_val (off : Offset) : (regOfOffset off).val = off.toNat / 2 % 8 := by
  simp [regOfOffset, Nat.shiftRight_eq_div_pow]

/-- An even offset of the window is that of a voice register or a global one (R62, R63). -/
theorem offset_cases {off : Offset} (h : ¬(off.toNat % 2 = 1 ∨ 0x280 ≤ off.toNat)) :
    (∃ v reg, off = voiceOffset v reg) ∨ IsGlobalOffset off := by
  obtain ⟨heven, hinside⟩ := not_or.mp h
  by_cases hvoice : off.toNat / 16 < 24
  · refine .inl ⟨⟨off.toNat / 16, hvoice⟩, regOfOffset off, BitVec.eq_of_toNat_eq ?_⟩
    rw [voiceOffset_toNat, regOfOffset_val]
    dsimp only
    omega
  · exact .inr ⟨by omega, by omega, by omega⟩

theorem encode_voiceRead (v : VoiceId) (reg : Fin 8) : encode (voiceRead v reg) = .rd (voiceOffset v reg) := by
  fin_cases reg <;> rfl

theorem encode_voiceWrite (v : VoiceId) (reg : Fin 8) (d : Half) (n : Nat) :
    encode (voiceWrite v reg d n) = .wr (voiceOffset v reg) d n := by
  fin_cases reg <;> rfl

theorem voiceRead_wellFormed (v : VoiceId) (reg : Fin 8) : (voiceRead v reg).wellFormed = true := by
  fin_cases reg <;> rfl

theorem voiceWrite_wellFormed (v : VoiceId) (reg : Fin 8) (d : Half) (n : Nat) : (voiceWrite v reg d n).wellFormed = true := by
  fin_cases reg <;> rfl

/-- The offsets of the global registers (R63). -/
def mappedOffsets : List Offset :=
  [0x180#10, 0x182#10, 0x188#10, 0x18A#10, 0x18C#10, 0x18E#10, 0x198#10, 0x19A#10, 0x19C#10, 0x19E#10, 0x1A4#10, 0x1A6#10,
    0x1A8#10, 0x1AA#10, 0x1AE#10]

/-- A global offset is a register's or one that R64 lists. -/
theorem mapped_or_unknown {off : Offset} (h : IsGlobalOffset off) : off ∈ mappedOffsets ∨ isUnknownOffset off = true := by
  obtain ⟨heven, hlow, hhigh⟩ := h
  simp only [mappedOffsets, isUnknownOffset, List.mem_cons, List.not_mem_nil, or_false, ← BitVec.toNat_inj, BitVec.toNat_ofNat,
    Bool.and_eq_true, Bool.or_eq_true, beq_iff_eq, decide_eq_true_eq]
  omega

theorem globalRead_unknown {off : Offset} (h : isUnknownOffset off = true) (hg : IsGlobalOffset off) :
    globalRead off = .rdUnknown off :=
  Except.ok.inj ((decode_rd_global hg).symm.trans ((decode_rd off).trans (decodeRegRead_unknown h)))

theorem globalWrite_unknown {off : Offset} (h : isUnknownOffset off = true) (hg : IsGlobalOffset off) (d : Half) (n : Nat) :
    globalWrite off d n = .wrUnknown off d :=
  Except.ok.inj ((decode_wr_global hg d n).symm.trans ((decode_wr off d n).trans (decodeRegWrite_unknown h d n)))

theorem globalRead_mapped : ∀ off ∈ mappedOffsets, encode (globalRead off) = .rd off ∧ (globalRead off).wellFormed = true := by
  simp only [mappedOffsets, List.forall_mem_cons]
  refine ⟨⟨rfl, rfl⟩, ⟨rfl, rfl⟩, ⟨rfl, rfl⟩, ⟨rfl, rfl⟩, ⟨rfl, rfl⟩, ⟨rfl, rfl⟩, ⟨rfl, rfl⟩, ⟨rfl, rfl⟩, ⟨rfl, rfl⟩, ⟨rfl, rfl⟩,
    ⟨rfl, rfl⟩, ⟨rfl, rfl⟩, ⟨rfl, rfl⟩, ⟨rfl, rfl⟩, ⟨rfl, rfl⟩, nofun⟩

theorem globalWrite_mapped (d : Half) (n : Nat) : ∀ off ∈ mappedOffsets,
    (encode (globalWrite off d n)).word = makeWord 1#3 off d ∧ (globalWrite off d n).wellFormed = true := by
  simp only [mappedOffsets, List.forall_mem_cons]
  refine ⟨⟨rfl, rfl⟩, ⟨rfl, rfl⟩, ⟨rfl, rfl⟩, ⟨rfl, rfl⟩, ⟨rfl, rfl⟩, ⟨rfl, rfl⟩, ⟨rfl, rfl⟩, ⟨rfl, rfl⟩, ⟨rfl, rfl⟩, ⟨rfl, rfl⟩,
    ⟨rfl, rfl⟩, ⟨rfl, rfl⟩, ⟨rfl, rfl⟩, ⟨rfl, rfl⟩, ⟨rfl, rfl⟩, nofun⟩

/-! ## The fields of a word -/

/-- A word whose bits 25:0 are 0 has no offset and no data. -/
theorem fields_of_lowBits_zero {w : Word} (h : w.extractLsb' 0 26 = 0#26) : offField w = 0#10 ∧ dataField w = 0#16 := by
  have hlow : w.toNat % 2 ^ 26 = 0 := by simpa using congrArg BitVec.toNat h
  constructor <;> apply BitVec.eq_of_toNat_eq
  · simp only [offField, BitVec.extractLsb'_toNat, Nat.shiftRight_eq_div_pow, BitVec.toNat_ofNat]
    omega
  · simp only [dataField, BitVec.extractLsb'_toNat, Nat.shiftRight_eq_div_pow, BitVec.toNat_ofNat]
    omega

/-- The mask of O2 drops the data field. -/
theorem makeWord_and_mask (k : BitVec 3) (o : Offset) (d : Half) : makeWord k o d &&& 0xFFFF0000#32 = makeWord k o 0#16 := by
  have mask : (0xFFFF0000#32 : Word) = BitVec.allOnes 16 ++ 0#16 := by decide
  have hand : makeWord k o d &&& (BitVec.allOnes 16 ++ 0#16) = ((k ++ 0#3 ++ o) &&& BitVec.allOnes 16) ++ (d &&& 0#16) :=
    BitVec.and_append
  rw [mask, hand, BitVec.and_allOnes, BitVec.and_zero]
  rfl

/-! ## What the decoder answers -/

/-- A read that is answered encodes to its offset, and is well-formed. -/
theorem decodeRegRead_ok {off : Offset} {i : Instr} (h : decodeRegRead off = .ok i) :
    encode i = .rd off ∧ i.wellFormed = true := by
  have inside := mt (decodeRegRead_error_iff off).mpr (by simp [h])
  rcases offset_cases inside with ⟨v, reg, rfl⟩ | hglobal
  · obtain rfl := Except.ok.inj ((decodeRegRead_voice v reg).symm.trans h)
    exact ⟨encode_voiceRead v reg, voiceRead_wellFormed v reg⟩
  · obtain rfl := Except.ok.inj ((decode_rd_global hglobal).symm.trans ((decode_rd off).trans h))
    rcases mapped_or_unknown hglobal with hmapped | hunknown
    · exact globalRead_mapped off hmapped
    · rw [globalRead_unknown hunknown hglobal]
      exact ⟨rfl, hunknown⟩

/-- A write that is answered encodes to its offset and data, and is well-formed. Its `t_sync` is no part of the word. -/
theorem decodeRegWrite_ok {off : Offset} {d : Half} {n : Nat} {i : Instr} (h : decodeRegWrite off d n = .ok i) :
    (encode i).word = makeWord 1#3 off d ∧ i.wellFormed = true := by
  have inside := mt (decodeRegWrite_error_iff off d n).mpr (by simp [h])
  rcases offset_cases inside with ⟨v, reg, rfl⟩ | hglobal
  · obtain rfl := Except.ok.inj ((decodeRegWrite_voice v reg d n).symm.trans h)
    exact ⟨congrArg Request.word (encode_voiceWrite v reg d n), voiceWrite_wellFormed v reg d n⟩
  · obtain rfl := Except.ok.inj ((decode_wr_global hglobal d n).symm.trans ((decode_wr off d n).trans h))
    rcases mapped_or_unknown hglobal with hmapped | hunknown
    · exact globalWrite_mapped d n off hmapped
    · rw [globalWrite_unknown hunknown hglobal]
      exact ⟨rfl, hunknown⟩

/-- The kinds 2 to 6 encode to their kind alone, and are well-formed. -/
theorem decodeControl_ok {kind : BitVec 3} (h0 : kind ≠ 0#3) (h1 : kind ≠ 1#3) (h7 : kind ≠ 7#3) {p : Payload} {i : Instr}
    (h : decodeControl kind p = .ok i) : (encode i).word = makeWord kind 0#10 0#16 ∧ i.wellFormed = true := by
  have hkind : kind = 2#3 ∨ kind = 3#3 ∨ kind = 4#3 ∨ kind = 5#3 ∨ kind = 6#3 := by
    clear h
    revert kind
    decide
  rcases hkind with rfl | rfl | rfl | rfl | rfl <;> obtain rfl := Except.ok.inj h <;> exact ⟨rfl, rfl⟩

/-- Every transaction the decoder answers encodes to the word's own fields, but for the data of a read, and is well-formed. -/
theorem decode_ok {r : Request} {i : Instr} (h : decode r = .ok i) :
    zeroField r.word = 0#3 ∧ i.wellFormed = true ∧ (encode i).word =
      makeWord (kindField r.word) (offField r.word) (if kindField r.word = 0#3 then 0#16 else dataField r.word) := by
  have hkind : kindField r.word ≠ 7#3 := fun hk => by simp [decode_of_reservedKind hk] at h
  have hzero : zeroField r.word = 0#3 := by_contra fun hz => by simp [decode_of_zeroFieldSet hkind hz] at h
  refine ⟨hzero, ?_⟩
  by_cases h0 : kindField r.word = 0#3
  · obtain ⟨hencode, hwf⟩ := decodeRegRead_ok ((decode_of_regRead hzero h0).symm.trans h)
    rw [if_pos h0, h0, hencode]
    exact ⟨hwf, rfl⟩
  rw [if_neg h0]
  by_cases h1 : kindField r.word = 1#3
  · obtain ⟨hword, hwf⟩ := decodeRegWrite_ok ((decode_of_regWrite hzero h1).symm.trans h)
    rw [h1, hword]
    exact ⟨hwf, rfl⟩
  rw [decode_of_control hkind hzero h0 h1] at h
  split at h
  · cases h
  case isFalse hbits =>
    obtain ⟨hword, hwf⟩ := decodeControl_ok h0 h1 hkind h
    obtain ⟨hoff, hdata⟩ := fields_of_lowBits_zero (not_not.mp hbits)
    rw [hword, hoff, hdata]
    exact ⟨hwf, rfl⟩

/-! ## The obligations -/

/-- Settles O2: the encoded word has the fields of the word decoded, and for a read the mask drops the data field. -/
theorem encodeOfDecodedRestoresTheWord : Obligations.EncodeOfDecodedRestoresTheWord := by
  intro r i h
  obtain ⟨hzero, -, hword⟩ := decode_ok h
  rw [hword]
  split
  · rw [← makeWord_and_mask, makeWord_fields r.word hzero]
  · exact makeWord_fields r.word hzero

/-- Settles O3. -/
theorem decodedTransactionsAreWellFormed : Obligations.DecodedTransactionsAreWellFormed := by
  intro r i h
  obtain ⟨-, hwf, -⟩ := decode_ok h
  exact hwf

/-- Settles O5, word by word. -/
theorem vectorWordsDecodeAsWritten : Obligations.VectorWordsDecodeAsWritten := by
  refine ⟨?_, ?_, ?_, ?_, ?_, ?_, ?_, ?_, ?_, ?_, ?_, ?_, ?_⟩ <;> decide

end Sys2Proof

/-! PROOF of O6 to O8: the step. A transaction is its catch-up, an effect and a reply: the catch-up writes what samples write, and the
effect is written out once as the fields it sets, so that a field it does not set is seen to be kept. -/

namespace Sys2Proof.Machine

/-! ## A transaction is a catch-up, an effect and a reply -/

/-- The samples a transaction generates before its effect (R73, R144). -/
def catchUp (i : Instr) (s : State) : State :=
  match i with
  | .wrVolL v _ n | .wrVolR v _ n | .wrPitch v _ n | .wrSaddr v _ n | .wrAdsrLo v _ n | .wrAdsrHi v _ n | .wrAdsrVol v _ n
  | .wrRaddr v _ n => voiceCatchUp Config.params v n s
  | .wrMvolL _ n | .wrMvolR _ n | .wrKonLo _ n | .wrKonHi _ n | .wrKoffLo _ n | .wrKoffHi _ n | .wrEonLo _ n | .wrEonHi _ n
  | .execute n => execute Config.params n s
  | _ => s

/-- What a transaction does to the block after its catch-up, as the fields it sets. -/
def effect : Instr → State → State
  | .wrVolL v d _, s => s.mapVoice v (Voice.storeReg 0 d)
  | .wrVolR v d _, s => s.mapVoice v (Voice.storeReg 1 d)
  | .wrPitch v d _, s => s.mapVoice v (Voice.storeReg 2 d)
  | .wrSaddr v d _, s => s.mapVoice v (Voice.storeReg 3 d)
  | .wrAdsrLo v d _, s => s.mapVoice v (Voice.storeReg 4 d)
  | .wrAdsrHi v d _, s => s.mapVoice v (Voice.storeReg 5 d)
  | .wrAdsrVol v d _, s => s.mapVoice v (Voice.storeReg 6 d)
  | .wrRaddr v d _, s => s.mapVoice v (Voice.storeReg 7 d)
  | .wrMvolL d _, s => { s with mainVolL := d }
  | .wrMvolR d _, s => { s with mainVolR := d }
  | .wrKonLo d _, s => let t := writeKon (mergeLow · d) (lowMask d) s
      { s with kon := mergeLow s.kon d, voices := t.voices, endx := t.endx }
  | .wrKonHi d _, s => let t := writeKon (mergeHigh · d) (highMask d) s
      { s with kon := mergeHigh s.kon d, voices := t.voices, endx := t.endx }
  | .wrKoffLo d _, s => { s with koff := mergeLow s.koff d, voices := (writeKoff (mergeLow · d) (lowMask d) s).voices }
  | .wrKoffHi d _, s => { s with koff := mergeHigh s.koff d, voices := (writeKoff (mergeHigh · d) (highMask d) s).voices }
  | .wrEonLo d _, s => { s with eon := mergeLow s.eon d }
  | .wrEonHi d _, s => { s with eon := mergeHigh s.eon d }
  | .wrIrqAddr d, s => { s with irqAddr := d }
  | .wrTaddr d, s => { s with taddr := d, cursor := addressIndex d }
  | .rdTdata, s => s.diag .transferDataRead
  | .wrTdata d, s => pioWrite d s
  | .wrSpucnt d, s => { s with spucnt := d, dmaRequest := dmaRequestOf d }
  | .rdUnknown _, s | .wrUnknown _ _, s => s.diag .unknownRegister
  | .dmaRead n, s => dmaReadAdvance n s
  | .dmaWrite ws, s => dmaWriteWords ws s
  | .cdPush l r, s => let t := cdPush Config.params { left := l, right := r } s
      { s with cdFifo := t.cdFifo, diags := t.diags }
  | .reset, s => resetBlock s
  | _, s => s

/-- A CD push writes the FIFO and the log alone (R161). -/
theorem cdPush_frame (p : Config.Params) (f : Frame) (s : State) :
    cdPush p f s = { s with cdFifo := (cdPush p f s).cdFifo, diags := (cdPush p f s).diags } := by
  by_cases h : s.cdFifo.length = p.cdFifoCapacity
  · rw [cdPush_of_full h]
    rfl
  · rw [cdPush_of_not_full h]

/-- Every arm of `exec` is its catch-up, then its effect, then its reply. -/
theorem exec_eq (i : Instr) (s : State) : ∃ r, exec i s = .next ((effect i (catchUp i s)).withReply r) := by
  cases i with
  | wrKonLo d n =>
    exact ⟨.none, congrArg done (writeKon_frame (mergeLow · d) (lowMask d) (execute Config.params n s))⟩
  | wrKonHi d n =>
    exact ⟨.none, congrArg done (writeKon_frame (mergeHigh · d) (highMask d) (execute Config.params n s))⟩
  | wrKoffLo d n =>
    exact ⟨.none, congrArg done (writeKoff_frame (mergeLow · d) (lowMask d) (execute Config.params n s))⟩
  | wrKoffHi d n =>
    exact ⟨.none, congrArg done (writeKoff_frame (mergeHigh · d) (highMask d) (execute Config.params n s))⟩
  | cdPush l r => exact ⟨.none, congrArg done (cdPush_frame Config.params { left := l, right := r } s)⟩
  | _ => exact ⟨_, rfl⟩

theorem eq_effect_of_exec {i : Instr} {s t : State} (h : exec i s = .next t) :
    ∃ r, t = (effect i (catchUp i s)).withReply r := by
  obtain ⟨r, hr⟩ := exec_eq i s
  exact ⟨r, Host.Outcome.next.inj (h.symm.trans hr)⟩

theorem voiceCatchUp_cases (p : Config.Params) (v : VoiceId) (n : Nat) (s : State) :
    voiceCatchUp p v n s = s ∨ voiceCatchUp p v n s = execute p n s := by
  by_cases h : (s.voice v).phase = .off
  · exact .inl (voiceCatchUp_of_off p h n)
  · exact .inr (voiceCatchUp_of_on p h n)

/-- A catch-up is an Execute or nothing. -/
theorem catchUp_cases (i : Instr) (s : State) : catchUp i s = s ∨ ∃ n, catchUp i s = execute Config.params n s := by
  cases i with
  | wrVolL v _ n | wrVolR v _ n | wrPitch v _ n | wrSaddr v _ n | wrAdsrLo v _ n | wrAdsrHi v _ n | wrAdsrVol v _ n
  | wrRaddr v _ n => exact (voiceCatchUp_cases Config.params v n s).imp_right fun h => ⟨n, h⟩
  | wrMvolL _ n | wrMvolR _ n | wrKonLo _ n | wrKonHi _ n | wrKoffLo _ n | wrKoffHi _ n | wrEonLo _ n | wrEonHi _ n
  | execute n => exact .inr ⟨n, rfl⟩
  | _ => exact .inl rfl

theorem onlySampling_catchUp (i : Instr) (s : State) : OnlySampling s (catchUp i s) := by
  rcases catchUp_cases i s with h | ⟨n, h⟩ <;> rw [h]
  · exact .refl s
  · exact onlySampling_execute Config.params n s

/-! ## The step (O6 to O8) -/

/-- Settles O8: every arm answers a next state. -/
theorem everyTransactionCompletes : Obligations.EveryTransactionCompletes := by
  intro i s
  obtain ⟨r, h⟩ := exec_eq i s
  exact ⟨_, h⟩

theorem step_of_inbox_nil {s : State} (h : s.inbox = []) : step s = .next s := by
  simp [step, takeRequest, h]

/-- A table word that decodes is a request that does (R67). -/
theorem decode_tableRequest {nbits w : Nat} {i : Instr} (h : decodeTableWord nbits w = some i) :
    decode (tableRequest nbits w) = .ok i := by
  unfold decodeTableWord at h
  cases hd : decode (tableRequest nbits w) with
  | ok j =>
    rw [hd] at h
    exact congrArg Except.ok (Option.some.inj h)
  | error e =>
    rw [hd] at h
    cases h

/-- Settles O6: a table word is the head of the inbox it is placed in. -/
theorem stepRunsTheDecodedTransaction : Obligations.StepRunsTheDecodedTransaction :=
  ⟨fun _ _ _ _ hs hd => step_of_decode_ok hs hd,
    fun _ _ _ _ h => step_of_decode_ok rfl (decode_tableRequest h),
    fun _ h => step_of_inbox_nil h⟩

/-- Settles O7: nothing offered, a transaction, which completes, or a refused word. -/
theorem runsStopOnlyAtRefusedWords : Obligations.RunsStopOnlyAtRefusedWords := by
  intro s
  cases hs : s.inbox with
  | nil => exact .inl ⟨s, step_of_inbox_nil hs⟩
  | cons r rest =>
    cases hd : decode r with
    | ok i =>
      obtain ⟨t, ht⟩ := everyTransactionCompletes i { s with inbox := rest }
      exact .inl ⟨t, (step_of_decode_ok hs hd).trans ht⟩
    | error e =>
      have taken : takeRequest s = some (r, { s with inbox := rest }) := by simp [takeRequest, hs]
      exact .inr ⟨r, _, e, taken, hd, step_of_decode_error hs hd⟩

end Sys2Proof.Machine

/-! PROOF of O11, O13 to O15 and O31: what a transaction leaves alone. Each field is followed through the two parts of a transaction:
the catch-up, by an induction over its samples, and the effect, which shows the fields it sets. -/

namespace Sys2Proof.Machine

/-! ## Inductions over the samples of an Execute -/

/-- A property that each voice and the output of each frame keep holds after a sample. -/
theorem generateSample_induction (p : Config.Params) {P : State → Prop} (voice : ∀ i u, P u → P (sampleVoice p i u).state)
    (output : ∀ u fifo frames, P u → P { u with cdFifo := fifo, frames := frames }) {s : State} (h : P s) :
    P (generateSample p s) := by
  have fold : ∀ (vs : List VoiceId) (m : Mixed), P m.state → P (vs.foldl (mixVoice p) m).state := by
    intro vs
    induction vs with
    | nil => exact fun _ hm => hm
    | cons v vs ih => exact fun m hm => ih _ (voice v m.state hm)
  have voices : P (mixVoices p s).state := by
    unfold mixVoices
    split
    · exact fold allVoices _ h
    · exact h
  rw [generateSample_eq]
  exact output _ _ _ voices

/-- A property that the carry's change, each voice and the output of each frame keep holds after an Execute. -/
theorem execute_voice_induction (p : Config.Params) {P : State → Prop} (n : Nat) {s : State}
    (carry : P { s with ticksCarry := (n + s.ticksCarry) % Config.ticksPerSample })
    (voice : ∀ i u, P u → P (sampleVoice p i u).state)
    (output : ∀ u fifo frames, P u → P { u with cdFifo := fifo, frames := frames }) : P (execute p n s) :=
  execute_induction p P n s carry fun _ hu => generateSample_induction p voice output hu

/-- A property of the state and of every Execute of it holds after the catch-up of a transaction. -/
theorem catchUp_induction {P : State → Prop} (i : Instr) {s : State} (h : P s) (hx : ∀ n, P (execute Config.params n s)) :
    P (catchUp i s) := by
  rcases catchUp_cases i s with e | ⟨n, e⟩ <;> rw [e]
  · exact h
  · exact hx n

/-! ## The output history (R41) -/

/-- From `s` to `t` each of the three lists is kept or extended. -/
structure HistoryGrows (s t : State) : Prop where
  frames : s.frames <+: t.frames
  irqEvents : s.irqEvents <+: t.irqEvents
  diags : s.diags <+: t.diags

theorem HistoryGrows.refl (s : State) : HistoryGrows s s := ⟨List.prefix_rfl, List.prefix_rfl, List.prefix_rfl⟩

theorem HistoryGrows.trans {s t u : State} (h : HistoryGrows s t) (k : HistoryGrows t u) : HistoryGrows s u :=
  ⟨h.frames.trans k.frames, h.irqEvents.trans k.irqEvents, h.diags.trans k.diags⟩

theorem generateSample_frames_prefix (p : Config.Params) (s : State) : s.frames <+: (generateSample p s).frames := by
  rw [generateSample_eq]
  exact List.prefix_append _ _

theorem generateSample_irqEvents_prefix (p : Config.Params) (s : State) : s.irqEvents <+: (generateSample p s).irqEvents := by
  rw [(generateSample_irq p s).events]
  exact List.prefix_append _ _

theorem generateSample_diags (p : Config.Params) (s : State) : (generateSample p s).diags = s.diags := by
  obtain ⟨-, -, -, -, -, -, -, -, -, -, -, hdiags, -⟩ := (onlySampling_generateSample p s).fields
  exact hdiags

theorem generateSample_history (p : Config.Params) (s : State) : HistoryGrows s (generateSample p s) where
  frames := generateSample_frames_prefix p s
  irqEvents := generateSample_irqEvents_prefix p s
  diags := generateSample_diags p s ▸ List.prefix_rfl

theorem execute_history (p : Config.Params) (n : Nat) (s : State) : HistoryGrows s (execute p n s) :=
  execute_induction p (HistoryGrows s) n s ⟨List.prefix_rfl, List.prefix_rfl, List.prefix_rfl⟩
    fun u h => h.trans (generateSample_history p u)

theorem cdPush_diags_prefix (p : Config.Params) (f : Frame) (s : State) : s.diags <+: (cdPush p f s).diags := by
  by_cases h : s.cdFifo.length = p.cdFifoCapacity
  · rw [cdPush_of_full h]
    exact List.prefix_append _ _
  · rw [cdPush_of_not_full h]

theorem effect_history (i : Instr) (s : State) : HistoryGrows s (effect i s) := by
  cases i with
  | rdTdata | rdUnknown _ | wrUnknown _ _ => exact ⟨List.prefix_rfl, List.prefix_rfl, List.prefix_append _ _⟩
  | cdPush l r => exact ⟨List.prefix_rfl, List.prefix_rfl, cdPush_diags_prefix Config.params { left := l, right := r } s⟩
  | _ => exact ⟨List.prefix_rfl, List.prefix_rfl, List.prefix_rfl⟩

/-- Settles O11: samples and effects extend the history, and the reply is no part of it. -/
theorem outputHistoryOnlyGrows : Obligations.OutputHistoryOnlyGrows := by
  intro i s t h
  obtain ⟨r, rfl⟩ := eq_effect_of_exec h
  have caught : HistoryGrows s (catchUp i s) := catchUp_induction i (.refl s) fun n => execute_history Config.params n s
  obtain ⟨⟨fs, hfs⟩, ⟨es, hes⟩, ⟨ds, hds⟩⟩ := caught.trans (effect_history i (catchUp i s))
  exact ⟨⟨fs, hfs.symm⟩, ⟨es, hes.symm⟩, ⟨ds, hds.symm⟩⟩

/-! ## The RAM and the cursor (R45, R127) -/

theorem catchUp_ram (i : Instr) (s : State) : (catchUp i s).ram = s.ram := by
  obtain ⟨-, -, -, -, -, -, -, -, -, -, hram, -⟩ := (onlySampling_catchUp i s).fields
  exact hram

theorem catchUp_cursor (i : Instr) (s : State) : (catchUp i s).cursor = s.cursor := by
  obtain ⟨-, -, -, -, -, -, -, hcursor, -⟩ := (onlySampling_catchUp i s).fields
  exact hcursor

theorem effect_ram {i : Instr} (hpio : ∀ d, i ≠ .wrTdata d) (hdma : ∀ ws, i ≠ .dmaWrite ws) (hreset : i ≠ .reset) (s : State) :
    (effect i s).ram = s.ram := by
  cases i with
  | wrTdata d => exact absurd rfl (hpio d)
  | dmaWrite ws => exact absurd rfl (hdma ws)
  | reset => exact absurd rfl hreset
  | _ => rfl

/-- Settles O13: a byte is read off the RAM, which only the three named effects set. -/
theorem ramChangesOnlyByTransfers : Obligations.RamChangesOnlyByTransfers := by
  intro i s t h hpio hdma hreset
  obtain ⟨r, rfl⟩ := eq_effect_of_exec h
  have hram : ((effect i (catchUp i s)).withReply r).ram = s.ram := (effect_ram hpio hdma hreset _).trans (catchUp_ram i s)
  exact ⟨hram, fun a => by rw [State.readByte, hram, State.readByte]⟩

theorem effect_cursor {i : Instr} (hpio : ∀ d, i ≠ .wrTdata d) (hwrite : ∀ ws, i ≠ .dmaWrite ws) (hread : ∀ n, i ≠ .dmaRead n)
    (htaddr : ∀ d, i ≠ .wrTaddr d) (hreset : i ≠ .reset) (s : State) : (effect i s).cursor = s.cursor := by
  cases i with
  | wrTdata d => exact absurd rfl (hpio d)
  | dmaWrite ws => exact absurd rfl (hwrite ws)
  | dmaRead n => exact absurd rfl (hread n)
  | wrTaddr d => exact absurd rfl (htaddr d)
  | reset => exact absurd rfl hreset
  | _ => rfl

/-- Settles O31: the three transfers run no catch-up and advance the cursor modulo `RAM_SIZE`. -/
theorem cursorMovesOnlyByTransfersTaddrAndReset : Obligations.CursorMovesOnlyByTransfersTaddrAndReset := by
  intro i s t h
  obtain ⟨r, rfl⟩ := eq_effect_of_exec h
  refine ⟨?_, ?_, ?_, fun hpio hwrite hread htaddr hreset => ?_⟩
  · rintro d rfl
    exact BitVec.toNat_add s.cursor 2
  · rintro ws rfl
    exact advance_toNat s.cursor _
  · rintro n rfl
    exact advance_toNat s.cursor _
  · exact (effect_cursor hpio hwrite hread htaddr hreset _).trans (catchUp_cursor i s)

/-! ## ENDX (R20) -/

/-- From `s` to `t` no ENDX bit is cleared and none of bits 31:24 is set. -/
def EndxGrows (s t : State) : Prop := ∃ m : Word, m.toNat < 2 ^ 24 ∧ t.endx = s.endx ||| m

theorem EndxGrows.of_eq {s t : State} (h : t.endx = s.endx) : EndxGrows s t := ⟨0, by decide, by simp [h]⟩

theorem EndxGrows.trans {s t u : State} (h : EndxGrows s t) (k : EndxGrows t u) : EndxGrows s u := by
  obtain ⟨m, hm, ht⟩ := h
  obtain ⟨n, hn, hu⟩ := k
  refine ⟨m ||| n, ?_, by rw [hu, ht, BitVec.or_assoc]⟩
  rw [BitVec.toNat_or]
  exact Nat.or_lt_two_pow hm hn

theorem EndxGrows.getLsbD {s t : State} (h : EndxGrows s t) {b : Nat} (hb : s.endx.getLsbD b = true) :
    t.endx.getLsbD b = true := by
  obtain ⟨m, -, ht⟩ := h
  rw [ht, BitVec.getLsbD_or, hb, Bool.true_or]

theorem EndxGrows.toNat_lt {s t : State} (h : EndxGrows s t) (hs : s.endx.toNat < 2 ^ 24) : t.endx.toNat < 2 ^ 24 := by
  obtain ⟨m, hm, ht⟩ := h
  rw [ht, BitVec.toNat_or]
  exact Nat.or_lt_two_pow hs hm

theorem voiceBit_toNat_lt (v : VoiceId) : (voiceBit v).toNat < 2 ^ 24 := by revert v; decide

theorem fetchStep_endx (i : VoiceId) (s : State) : (fetchStep i s).endx = s.endx := by
  rcases fetchStep_cases i s with ⟨-, h⟩ | ⟨-, h⟩
  · rw [h]
  · rw [h, State.mapVoice_endx, irqCheck_endx]

/-- A block end that stops its voice sets the voice's bit; every other keeps ENDX (R153). -/
theorem blockEndStep_endx (i : VoiceId) (s : State) :
    (blockEndStep i s).endx = s.endx ∨ (blockEndStep i s).endx = s.endx ||| voiceBit i := by
  rcases blockEndStep_cases i s with ⟨-, h⟩ | ⟨-, -, -, h⟩ | ⟨-, -, -, h⟩ | ⟨-, -, h⟩ <;> rw [h]
  · exact .inl rfl
  · exact .inl rfl
  · exact .inr rfl
  · exact .inl rfl

theorem sampleVoice_of_on (p : Config.Params) {i : VoiceId} {s : State} (h : (s.voice i).phase ≠ .off) :
    sampleVoice p i s =
      volumeStep p i (((advanceVoice i s).voice i).voiced p) ((advanceVoice i s).mapVoice i Voice.tickAdsr) :=
  if_pos (decide_eq_true h)

/-- The state after sampling an on voice: that after step 4 with the envelope ticked, but for the draw counter. -/
theorem sampleVoice_state_of_on (p : Config.Params) {i : VoiceId} {s : State} (h : (s.voice i).phase ≠ .off) :
    ∃ draws, (sampleVoice p i s).state = { (advanceVoice i s).mapVoice i Voice.tickAdsr with draws := draws } := by
  rw [sampleVoice_of_on p h]
  exact ⟨_, rfl⟩

theorem advanceVoice_endx (i : VoiceId) (s : State) :
    (advanceVoice i s).endx = s.endx ∨ (advanceVoice i s).endx = s.endx ||| voiceBit i := by
  have h := blockEndStep_endx i ((fetchStep i s).mapVoice i Voice.pitchStep)
  rwa [State.mapVoice_endx, fetchStep_endx] at h

/-- Sampling a voice keeps ENDX or sets the voice's own bit. -/
theorem sampleVoice_endx (p : Config.Params) (i : VoiceId) (s : State) :
    (sampleVoice p i s).state.endx = s.endx ∨ (sampleVoice p i s).state.endx = s.endx ||| voiceBit i := by
  by_cases h : (s.voice i).phase = .off
  · rw [sampleVoice_of_off p h]
    exact .inl rfl
  · obtain ⟨draws, hstate⟩ := sampleVoice_state_of_on p h
    have endx : (sampleVoice p i s).state.endx = (advanceVoice i s).endx := by
      rw [hstate]
      rfl
    rw [endx]
    exact advanceVoice_endx i s

theorem sampleVoice_endxGrows (p : Config.Params) (i : VoiceId) (s : State) : EndxGrows s (sampleVoice p i s).state := by
  rcases sampleVoice_endx p i s with h | h
  · exact .of_eq h
  · exact ⟨voiceBit i, voiceBit_toNat_lt i, h⟩

theorem execute_endxGrows (p : Config.Params) (n : Nat) (s : State) : EndxGrows s (execute p n s) :=
  execute_voice_induction p n (.of_eq rfl) (fun i u h => h.trans (sampleVoice_endxGrows p i u)) fun _ _ _ h => h

theorem catchUp_endxGrows (i : Instr) (s : State) : EndxGrows s (catchUp i s) :=
  catchUp_induction i (.of_eq rfl) fun n => execute_endxGrows Config.params n s

/-- No effect but RESET's and the KeyOns of a KON write clear an ENDX bit. -/
theorem effect_endx {i : Instr} (hlow : ∀ d n, i ≠ .wrKonLo d n) (hhigh : ∀ d n, i ≠ .wrKonHi d n) (hreset : i ≠ .reset)
    (s : State) : (effect i s).endx = s.endx := by
  cases i with
  | wrKonLo d n => exact absurd rfl (hlow d n)
  | wrKonHi d n => exact absurd rfl (hhigh d n)
  | reset => exact absurd rfl hreset
  | _ => rfl

/-- A set bit that a KON write leaves at 0 is that of a voice it names, and the parameter says that KeyOn clears it. -/
theorem writeKon_endx_kept_or_cleared (merge : Word → Word) (mask : Word) {s : State} {b : Nat} (hb : s.endx.getLsbD b = true) :
    (writeKon merge mask s).endx.getLsbD b = true ∨ (Config.endxClearOnKeyOn = true ∧ b < 24 ∧ mask.getLsbD b = true) := by
  rw [writeKon_endx, hb]
  cases cleared : Config.endxClearOnKeyOn && decide (b < 24) && mask.getLsbD b
  · exact .inl rfl
  · exact .inr (by simpa [and_assoc] using cleared)

/-- Settles O15: a catch-up only sets bits, and of the effects only a KON write can clear one, that of a voice it names. -/
theorem endxBitsAreClearedOnlyByResetOrKeyOn : Obligations.EndxBitsAreClearedOnlyByResetOrKeyOn := by
  intro i s t b h hreset hb
  obtain ⟨r, rfl⟩ := eq_effect_of_exec h
  have caught := (catchUp_endxGrows i s).getLsbD hb
  by_cases hlow : ∃ d n, i = .wrKonLo d n
  · obtain ⟨d, n, rfl⟩ := hlow
    refine (writeKon_endx_kept_or_cleared (mergeLow · d) (lowMask d) caught).imp_right fun ⟨clears, _, named⟩ => ?_
    rw [lowMask_getLsbD, Bool.and_eq_true, decide_eq_true_eq] at named
    exact ⟨clears, d, n, .inl ⟨rfl, named⟩⟩
  by_cases hhigh : ∃ d n, i = .wrKonHi d n
  · obtain ⟨d, n, rfl⟩ := hhigh
    refine (writeKon_endx_kept_or_cleared (mergeHigh · d) (highMask d) caught).imp_right fun ⟨clears, hlt, named⟩ => ?_
    rw [highMask_getLsbD, Bool.and_eq_true, decide_eq_true_eq] at named
    exact ⟨clears, d, n, .inr ⟨rfl, named.1, hlt, named.2⟩⟩
  refine .inl ?_
  rw [State.withReply_endx, effect_endx (fun d n e => hlow ⟨d, n, e⟩) (fun d n e => hhigh ⟨d, n, e⟩) hreset]
  exact caught

/-! ## The registers that only the host writes (R16 to R24, R30) -/

/-- The global registers that only the host writes, as a catch-up leaves them. -/
theorem catchUp_hostGlobals (i : Instr) (s : State) :
    (catchUp i s).spucnt = s.spucnt ∧ (catchUp i s).dmaRequest = s.dmaRequest ∧ (catchUp i s).mainVolL = s.mainVolL ∧
      (catchUp i s).mainVolR = s.mainVolR ∧ (catchUp i s).kon = s.kon ∧ (catchUp i s).koff = s.koff ∧
      (catchUp i s).eon = s.eon ∧ (catchUp i s).taddr = s.taddr ∧ (catchUp i s).irqAddr = s.irqAddr := by
  obtain ⟨hspucnt, hmvolL, hmvolR, hkon, hkoff, heon, htaddr, -, hirq, hdma, -⟩ := (onlySampling_catchUp i s).fields
  exact ⟨hspucnt, hdma, hmvolL, hmvolR, hkon, hkoff, heon, htaddr, hirq⟩

theorem lowHalf_mergeHigh (r : Word) (d : Half) : lowHalf (mergeHigh r d) = lowHalf r :=
  BitVec.extractLsb'_append_eq_right

theorem highHalf_mergeLow (r : Word) (d : Half) : highHalf (mergeLow r d) = highHalf r :=
  BitVec.extractLsb'_append_eq_left

section
variable {i : Instr} (hreset : i ≠ .reset) (s : State)
include hreset

theorem effect_spucnt (h : ∀ d, i ≠ .wrSpucnt d) :
    (effect i s).spucnt = s.spucnt ∧ (effect i s).dmaRequest = s.dmaRequest := by
  cases i with
  | reset => exact absurd rfl hreset
  | wrSpucnt d => exact absurd rfl (h d)
  | _ => exact ⟨rfl, rfl⟩

theorem effect_mainVolL (h : ∀ d n, i ≠ .wrMvolL d n) : (effect i s).mainVolL = s.mainVolL := by
  cases i with
  | reset => exact absurd rfl hreset
  | wrMvolL d n => exact absurd rfl (h d n)
  | _ => rfl

theorem effect_mainVolR (h : ∀ d n, i ≠ .wrMvolR d n) : (effect i s).mainVolR = s.mainVolR := by
  cases i with
  | reset => exact absurd rfl hreset
  | wrMvolR d n => exact absurd rfl (h d n)
  | _ => rfl

theorem effect_konLow (h : ∀ d n, i ≠ .wrKonLo d n) : lowHalf (effect i s).kon = lowHalf s.kon := by
  cases i with
  | reset => exact absurd rfl hreset
  | wrKonLo d n => exact absurd rfl (h d n)
  | wrKonHi d n => exact lowHalf_mergeHigh s.kon d
  | _ => rfl

theorem effect_konHigh (h : ∀ d n, i ≠ .wrKonHi d n) : highHalf (effect i s).kon = highHalf s.kon := by
  cases i with
  | reset => exact absurd rfl hreset
  | wrKonHi d n => exact absurd rfl (h d n)
  | wrKonLo d n => exact highHalf_mergeLow s.kon d
  | _ => rfl

theorem effect_koffLow (h : ∀ d n, i ≠ .wrKoffLo d n) : lowHalf (effect i s).koff = lowHalf s.koff := by
  cases i with
  | reset => exact absurd rfl hreset
  | wrKoffLo d n => exact absurd rfl (h d n)
  | wrKoffHi d n => exact lowHalf_mergeHigh s.koff d
  | _ => rfl

theorem effect_koffHigh (h : ∀ d n, i ≠ .wrKoffHi d n) : highHalf (effect i s).koff = highHalf s.koff := by
  cases i with
  | reset => exact absurd rfl hreset
  | wrKoffHi d n => exact absurd rfl (h d n)
  | wrKoffLo d n => exact highHalf_mergeLow s.koff d
  | _ => rfl

theorem effect_eonLow (h : ∀ d n, i ≠ .wrEonLo d n) : lowHalf (effect i s).eon = lowHalf s.eon := by
  cases i with
  | reset => exact absurd rfl hreset
  | wrEonLo d n => exact absurd rfl (h d n)
  | wrEonHi d n => exact lowHalf_mergeHigh s.eon d
  | _ => rfl

theorem effect_eonHigh (h : ∀ d n, i ≠ .wrEonHi d n) : highHalf (effect i s).eon = highHalf s.eon := by
  cases i with
  | reset => exact absurd rfl hreset
  | wrEonHi d n => exact absurd rfl (h d n)
  | wrEonLo d n => exact highHalf_mergeLow s.eon d
  | _ => rfl

theorem effect_taddr (h : ∀ d, i ≠ .wrTaddr d) : (effect i s).taddr = s.taddr := by
  cases i with
  | reset => exact absurd rfl hreset
  | wrTaddr d => exact absurd rfl (h d)
  | _ => rfl

theorem effect_irqAddr (h : ∀ d, i ≠ .wrIrqAddr d) : (effect i s).irqAddr = s.irqAddr := by
  cases i with
  | reset => exact absurd rfl hreset
  | wrIrqAddr d => exact absurd rfl (h d)
  | _ => rfl

/-- An effect stores in one register of one voice, or keeps the six host registers of every voice. -/
theorem effect_voice_cases :
    (∃ u reg d n, i = voiceWrite u reg d n ∧ effect i s = s.mapVoice u (Voice.storeReg reg d)) ∨
      ∀ v, ((effect i s).voice v).hostRegs = (s.voice v).hostRegs := by
  cases i with
  | reset => exact absurd rfl hreset
  | wrVolL u d n => exact .inl ⟨u, 0, d, n, rfl, rfl⟩
  | wrVolR u d n => exact .inl ⟨u, 1, d, n, rfl, rfl⟩
  | wrPitch u d n => exact .inl ⟨u, 2, d, n, rfl, rfl⟩
  | wrSaddr u d n => exact .inl ⟨u, 3, d, n, rfl, rfl⟩
  | wrAdsrLo u d n => exact .inl ⟨u, 4, d, n, rfl, rfl⟩
  | wrAdsrHi u d n => exact .inl ⟨u, 5, d, n, rfl, rfl⟩
  | wrAdsrVol u d n => exact .inl ⟨u, 6, d, n, rfl, rfl⟩
  | wrRaddr u d n => exact .inl ⟨u, 7, d, n, rfl, rfl⟩
  | wrKonLo d n => exact .inr fun v => hostRegs_forVoices (hostRegs_keyOn Config.params) (lowMask d) v _
  | wrKonHi d n => exact .inr fun v => hostRegs_forVoices (hostRegs_keyOn Config.params) (highMask d) v _
  | wrKoffLo d n => exact .inr fun v => hostRegs_forVoices hostRegs_keyOff (lowMask d) v _
  | wrKoffHi d n => exact .inr fun v => hostRegs_forVoices hostRegs_keyOff (highMask d) v _
  | _ => exact .inr fun _ => rfl

end

/-- The six registers of `hostRegs` are those of numbers 0 to 5. -/
theorem loadReg_of_hostRegs {x y : Voice} (h : x.hostRegs = y.hostRegs) {reg : Fin 8} (hreg : reg ≤ 5) :
    x.loadReg reg = y.loadReg reg := by
  simp only [Voice.hostRegs, Prod.mk.injEq] at h
  obtain ⟨h0, h1, h2, h3, h4, h5⟩ := h
  match reg with
  | 0 => exact h0
  | 1 => exact h1
  | 2 => exact h2
  | 3 => exact h3
  | 4 => exact h4
  | 5 => exact h5

theorem loadReg_storeReg (reg reg' : Fin 8) (d : Half) (x : Voice) :
    (x.storeReg reg' d).loadReg reg = if reg = reg' then d else x.loadReg reg := by
  fin_cases reg <;> fin_cases reg' <;> rfl

/-- A transaction other than the write of the register, and RESET, keeps it. -/
theorem voiceReg_kept {i : Instr} (hreset : i ≠ .reset) {v : VoiceId} {reg : Fin 8} (hreg : reg ≤ 5)
    (h : ∀ d n, i ≠ voiceWrite v reg d n) (s : State) :
    ((effect i (catchUp i s)).voice v).loadReg reg = (s.voice v).loadReg reg := by
  have caught : ((catchUp i s).voice v).hostRegs = (s.voice v).hostRegs :=
    catchUp_induction (P := fun u => (u.voice v).hostRegs = (s.voice v).hostRegs) i rfl fun n => hostRegs_execute _ n v s
  rw [← loadReg_of_hostRegs caught hreg]
  rcases effect_voice_cases hreset (catchUp i s) with ⟨u, reg', d, n, rfl, heffect⟩ | hkept
  · rw [heffect]
    by_cases hv : v = u
    · subst hv
      have hne : reg ≠ reg' := fun e => h d n (e ▸ rfl)
      rw [State.voice_mapVoice_self, loadReg_storeReg, if_neg hne]
    · rw [State.voice_mapVoice_ne _ _ hv]
  · exact loadReg_of_hostRegs (hkept v) hreg

/-- Settles O14: the catch-up keeps every such register, and each effect sets its own alone. -/
theorem hostOnlyRegistersChangeOnlyByTheirOwnWrites : Obligations.HostOnlyRegistersChangeOnlyByTheirOwnWrites := by
  intro i s t h hreset
  obtain ⟨r, rfl⟩ := eq_effect_of_exec h
  obtain ⟨hspucnt, hdma, hmvolL, hmvolR, hkon, hkoff, heon, htaddr, hirq⟩ := catchUp_hostGlobals i s
  have voices {v : VoiceId} {reg : Fin 8} (hreg : reg ≤ 5) (h : ∀ d n, i ≠ voiceWrite v reg d n) :=
    voiceReg_kept hreset hreg h s
  rw [← hspucnt, ← hdma, ← hmvolL, ← hmvolR, ← hkon, ← hkoff, ← heon, ← htaddr, ← hirq]
  exact ⟨effect_spucnt hreset _, effect_mainVolL hreset _, effect_mainVolR hreset _, effect_konLow hreset _,
    effect_konHigh hreset _, effect_koffLow hreset _, effect_koffHigh hreset _, effect_eonLow hreset _, effect_eonHigh hreset _,
    effect_taddr hreset _, effect_irqAddr hreset _, fun v =>
      ⟨voices (reg := 0) (by decide), voices (reg := 1) (by decide), voices (reg := 2) (by decide), voices (reg := 3) (by decide),
        voices (reg := 4) (by decide), voices (reg := 5) (by decide)⟩⟩

end Sys2Proof.Machine

/-! PROOF of O9, O10, O42 and O45: the invariant. Of a voice it has two parts: the counter, which steps 3 and 4 of a sample move
within the block, and the envelope, which every phase entered sets up and every tick keeps. The rest is a field at a time. -/

namespace Sys2Proof.Machine

/-! ## The counter through steps 2 to 4 (R150 to R152) -/

theorem fetchStep_voice_self (i : VoiceId) (s : State) :
    (fetchStep i s).voice i = s.voice i ∨ ∃ blk, (fetchStep i s).voice i = (s.voice i).takeBlock blk := by
  rcases fetchStep_cases i s with ⟨-, h⟩ | ⟨-, h⟩
  · exact .inl (by rw [h])
  · exact .inr ⟨_, by rw [h, State.voice_mapVoice_self, irqCheck_voice]⟩

theorem Voice.takeBlock_counter (v : Voice) (blk : Block) : (v.takeBlock blk).counter = v.counter := by
  simp [Voice.takeBlock_eq]

theorem fetchStep_counter (i : VoiceId) (s : State) : ((fetchStep i s).voice i).counter = (s.voice i).counter := by
  rcases fetchStep_voice_self i s with h | ⟨blk, h⟩ <;> rw [h]
  exact Voice.takeBlock_counter _ blk

theorem fetchStep_sampleRate (i : VoiceId) (s : State) : ((fetchStep i s).voice i).sampleRate = (s.voice i).sampleRate :=
  loadReg_of_hostRegs (reg := 2) (hostRegs_fetchStep i i s) (by decide)

theorem Voice.keyOff_counter (v : Voice) : v.keyOff.counter = v.counter := by
  unfold Voice.keyOff
  split <;> rfl

theorem blockEndStep_counter (i : VoiceId) (s : State) :
    ((blockEndStep i s).voice i).counter =
      if sampleIndex (s.voice i).counter < 28 then (s.voice i).counter else (s.voice i).counter - 0x1C000#32 := by
  rcases blockEndStep_cases i s with ⟨inside, h⟩ | ⟨ended, -, -, h⟩ | ⟨ended, -, -, h⟩ | ⟨ended, -, h⟩ <;> rw [h]
  · rw [if_pos inside]
  · rw [if_neg (not_lt.mpr ended), State.voice_mapVoice_self]
    rfl
  · rw [if_neg (not_lt.mpr ended), State.voice_keyOff, if_pos rfl, Voice.keyOff_counter, State.voice_setEndx,
      State.voice_mapVoice_self, Voice.leaveBlock_counter]
  · rw [if_neg (not_lt.mpr ended), State.voice_mapVoice_self]
    rfl

/-- The counter after steps 2 to 4: the clamped rate is added, and a block's length taken off where the sum passes the block. -/
theorem advanceVoice_counter (i : VoiceId) {s : State} (h : (s.voice i).counter.toNat < 0x1C000) :
    let stepped := (s.voice i).counter.toNat + min (s.voice i).sampleRate.toNat 0x4000
    ((advanceVoice i s).voice i).counter.toNat = if stepped < 0x1C000 then stepped else stepped - 0x1C000 := by
  intro stepped
  have hrate : min (s.voice i).sampleRate.toNat 0x4000 ≤ 0x4000 := Nat.min_le_right _ _
  have hpitch : ((s.voice i).counter + BitVec.ofNat 32 (min (s.voice i).sampleRate.toNat 0x4000)).toNat = stepped := by
    rw [BitVec.toNat_add, BitVec.toNat_ofNat]
    omega
  have hindex : stepped / 2 ^ 12 % 2 ^ 5 < 28 ↔ stepped < 0x1C000 := by omega
  rw [advanceVoice, blockEndStep_counter, State.voice_mapVoice_self, Voice.pitchStep_counter, fetchStep_counter,
    fetchStep_sampleRate, sampleIndex_eq, hpitch]
  by_cases inside : stepped < 0x1C000
  · rw [if_pos (hindex.mpr inside), if_pos inside, hpitch]
  · rw [if_neg (mt hindex.mp inside), if_neg inside, BitVec.toNat_sub, hpitch]
    simp only [BitVec.toNat_ofNat]
    omega

theorem advanceVoice_counter_lt (i : VoiceId) {s : State} (h : (s.voice i).counter.toNat < 0x1C000) :
    ((advanceVoice i s).voice i).counter.toNat < 0x1C000 := by
  have hrate : min (s.voice i).sampleRate.toNat 0x4000 ≤ 0x4000 := Nat.min_le_right _ _
  rw [advanceVoice_counter i h]
  split <;> omega

/-- Settles O42: the pitch step changes the counter alone, and 32 bits hold every sum. -/
theorem counterStepsByTheClampedRateModuloTheBlock : Obligations.CounterStepsByTheClampedRateModuloTheBlock := by
  intro i s
  refine ⟨⟨(fetchStep i s).mapVoice i Voice.pitchStep, onlyVoice_mapVoice i _ _, rfl⟩, fun h => ?_⟩
  have hlt := advanceVoice_counter_lt i h
  refine ⟨advanceVoice_counter i h, hlt, ?_⟩
  rw [sampleIndex_eq]
  omega

/-! ## One voice among the others (R148, R174) -/

theorem sampleVoice_voice_ne (p : Config.Params) {i u : VoiceId} (s : State) (h : u ≠ i) :
    (sampleVoice p i s).state.voice u = s.voice u := by
  by_cases off : (s.voice i).phase = .off
  · rw [sampleVoice_of_off p off]
  · obtain ⟨draws, hstate⟩ := sampleVoice_state_of_on p off
    have voice : (sampleVoice p i s).state.voice u = ((advanceVoice i s).mapVoice i Voice.tickAdsr).voice u := by
      rw [hstate]
      rfl
    rw [voice, State.voice_mapVoice_ne _ _ h, advanceVoice_voice_ne s h]

theorem voiceBit_getLsbD_ne {i : VoiceId} {b : Nat} (h : b ≠ i.val) : (voiceBit i).getLsbD b = false := by
  rw [voiceBit, BitVec.getLsbD_shiftLeft, BitVec.getLsbD_one]
  by_cases hlt : b < i.val
  · simp [hlt]
  · have : b - i.val ≠ 0 := by omega
    simp [this]

/-- Settles O45: a sample writes the sample path's fields, of them its own voice and its own ENDX bit. -/
theorem samplingOneVoiceLeavesTheOthersAlone : Obligations.SamplingOneVoiceLeavesTheOthersAlone := by
  intro p i s
  obtain ⟨hframes, hfifo⟩ := Prod.mk.inj (frameQueues_sampleVoice p i s)
  refine ⟨onlySampling_sampleVoice p i s, fun u h => sampleVoice_voice_ne p s h, fun b h => ?_,
    (sampleVoice_endxGrows p i s).getLsbD, hframes, hfifo⟩
  rcases sampleVoice_endx p i s with e | e
  · rw [e]
  · rw [e, BitVec.getLsbD_or, voiceBit_getLsbD_ne h, Bool.or_false]

/-! ## The envelope of a voice (R39, R40) -/

/-- The fields of a voice that its envelope runs on. -/
def Voice.envelope (v : Voice) : Phase × AdsrTarget × Word × Word × Int :=
  (v.phase, v.target, v.adsrTicks, v.adsrTicksRemaining, v.adsrStep)

/-- The part of `Voice.Inv` that speaks of the envelope. -/
def Voice.EnvelopeInv (v : Voice) : Prop := Voice.Inv { v with counter := 0 }

theorem zero_counter_lt : (0 : Word).toNat < 0x1C000 := by decide

theorem Voice.inv_iff (v : Voice) : v.Inv ↔ v.counter.toNat < 0x1C000 ∧ v.EnvelopeInv :=
  ⟨fun h => ⟨h.counter_lt, { h with counter_lt := zero_counter_lt }⟩, fun ⟨hcounter, h⟩ => { h with counter_lt := hcounter }⟩

theorem Voice.EnvelopeInv.congr {u v : Voice} (hv : v.EnvelopeInv) (h : u.envelope = v.envelope) : u.EnvelopeInv := by
  simp only [Voice.envelope, Prod.mk.injEq] at h
  obtain ⟨hphase, htarget, hticks, hremaining, hstep⟩ := h
  obtain ⟨-, h1, h2, h3, h4, h5, h6⟩ := hv
  refine ⟨zero_counter_lt, ?_, ?_, ?_, ?_, ?_, ?_⟩ <;> simpa only [hphase, htarget, hticks, hremaining, hstep]

/-- Every phase entered sets up its own ticks and step (R131). -/
theorem Voice.enterPhase_envelopeInv (v : Voice) (p : Phase) : (v.enterPhase p).EnvelopeInv where
  counter_lt := zero_counter_lt
  remaining_pos _ := phaseTicks_pos (phaseTarget_shift_le p _ _)
  remaining_le _ := le_rfl
  ticks_eq _ := rfl
  step_eq _ := rfl
  step_le := phaseTarget_step_le p _ _
  shift_le := phaseTarget_shift_le p _ _

theorem Voice.EnvelopeInv.keyOff {v : Voice} (h : v.EnvelopeInv) : v.keyOff.EnvelopeInv := by
  unfold Voice.keyOff
  split
  · exact h
  · exact v.enterPhase_envelopeInv .release

/-- A count above 1 goes down by one, one at 1 is reloaded, or the next phase is entered (R133). -/
theorem Voice.EnvelopeInv.tickAdsr {v : Voice} (h : v.EnvelopeInv) : v.tickAdsr.EnvelopeInv := by
  rcases v.tickAdsr_cases with ⟨hcount, e⟩ | ⟨-, -, -, e⟩ | ⟨-, -, e⟩ <;> rw [e]
  case inl =>
    have hne : v.adsrTicksRemaining ≠ 1#32 := fun e => hcount (sub_eq_zero.mpr e)
    have count (on : v.phase ≠ .off) :
        (v.adsrTicksRemaining - 1).toNat = v.adsrTicksRemaining.toNat - 1 ∧ 2 ≤ v.adsrTicksRemaining.toNat := by
      have hpos : 1 ≤ v.adsrTicksRemaining.toNat := h.remaining_pos on
      bv_omega
    exact { h with
      remaining_pos := fun on => by
        obtain ⟨hsub, htwo⟩ := count on
        exact (Nat.le_sub_of_add_le htwo).trans_eq hsub.symm
      remaining_le := fun on => (count on).1.trans_le ((Nat.sub_le _ _).trans (h.remaining_le on)) }
  case inr.inl => exact Voice.enterPhase_envelopeInv _ _
  case inr.inr =>
    have hpos (on : v.phase ≠ .off) : 1 ≤ v.adsrTicks.toNat := (h.remaining_pos on).trans (h.remaining_le on)
    exact { h with remaining_pos := hpos, remaining_le := fun _ => le_rfl }

theorem Voice.takeBlock_envelope (v : Voice) (blk : Block) : (v.takeBlock blk).envelope = v.envelope := by
  rw [Voice.takeBlock_eq]
  simp [Voice.envelope]

theorem fetchStep_envelopeInv {i : VoiceId} {s : State} (h : (s.voice i).EnvelopeInv) :
    ((fetchStep i s).voice i).EnvelopeInv := by
  rcases fetchStep_voice_self i s with e | ⟨blk, e⟩ <;> rw [e]
  · exact h
  · exact h.congr (Voice.takeBlock_envelope _ blk)

theorem blockEndStep_envelopeInv {i : VoiceId} {s : State} (h : (s.voice i).EnvelopeInv) :
    ((blockEndStep i s).voice i).EnvelopeInv := by
  rcases blockEndStep_cases i s with ⟨-, e⟩ | ⟨-, -, -, e⟩ | ⟨-, -, -, e⟩ | ⟨-, -, e⟩ <;> rw [e]
  · exact h
  · rw [State.voice_mapVoice_self]
    exact h.congr rfl
  · rw [State.voice_keyOff, if_pos rfl, State.voice_setEndx, State.voice_mapVoice_self]
    exact Voice.EnvelopeInv.keyOff (h.congr rfl)
  · rw [State.voice_mapVoice_self]
    exact h.congr rfl

theorem advanceVoice_envelopeInv {i : VoiceId} {s : State} (h : (s.voice i).EnvelopeInv) :
    ((advanceVoice i s).voice i).EnvelopeInv := by
  refine blockEndStep_envelopeInv ?_
  rw [State.voice_mapVoice_self]
  exact (fetchStep_envelopeInv h).congr rfl

/-! ## The voices of a state -/

theorem Voice.tickAdsr_counter (v : Voice) : v.tickAdsr.counter = v.counter := by
  rcases v.tickAdsr_cases with ⟨-, e⟩ | ⟨-, -, -, e⟩ | ⟨-, -, e⟩ <;> rw [e]
  exact Voice.enterPhase_counter _ _

theorem Voice.Inv.tickAdsr {v : Voice} (h : v.Inv) : v.tickAdsr.Inv := by
  obtain ⟨hcounter, henvelope⟩ := v.inv_iff.mp h
  exact v.tickAdsr.inv_iff.mpr ⟨by rwa [Voice.tickAdsr_counter], henvelope.tickAdsr⟩

theorem Voice.Inv.keyOn {v : Voice} (h : v.Inv) : v.keyOn.Inv :=
  v.keyOn.inv_iff.mpr ⟨h.counter_lt, Voice.enterPhase_envelopeInv _ .attack⟩

theorem Voice.Inv.keyOff {v : Voice} (h : v.Inv) : v.keyOff.Inv := by
  obtain ⟨hcounter, henvelope⟩ := v.inv_iff.mp h
  exact v.keyOff.inv_iff.mpr ⟨by rwa [Voice.keyOff_counter], henvelope.keyOff⟩

/-- No register of the host is part of the invariant. -/
theorem Voice.Inv.storeReg {v : Voice} (h : v.Inv) (reg : Fin 8) (d : Half) : (v.storeReg reg d).Inv := by
  fin_cases reg <;> exact { h with }

/-- Steps 2 to 4 keep the invariant of the voice. -/
theorem advanceVoice_inv {i : VoiceId} {s : State} (h : (s.voice i).Inv) : ((advanceVoice i s).voice i).Inv := by
  obtain ⟨hcounter, henvelope⟩ := (s.voice i).inv_iff.mp h
  exact (Voice.inv_iff _).mpr ⟨advanceVoice_counter_lt i hcounter, advanceVoice_envelopeInv henvelope⟩

theorem sampleVoice_voices_inv (p : Config.Params) (i : VoiceId) {s : State} (h : ∀ v, (s.voice v).Inv) (v : VoiceId) :
    ((sampleVoice p i s).state.voice v).Inv := by
  by_cases hv : v = i
  · subst hv
    by_cases off : (s.voice v).phase = .off
    · rw [sampleVoice_of_off p off]
      exact h v
    · obtain ⟨draws, hstate⟩ := sampleVoice_state_of_on p off
      have voice : (sampleVoice p v s).state.voice v = ((advanceVoice v s).mapVoice v Voice.tickAdsr).voice v := by
        rw [hstate]
        rfl
      rw [voice, State.voice_mapVoice_self]
      exact (advanceVoice_inv (h v)).tickAdsr
  · rw [sampleVoice_voice_ne p s hv]
    exact h v

/-! ## Execute keeps the invariant -/

/-- A flag that is up has left an event, also after one more rise (R167). -/
theorem IrqKeptOrRaised.recorded {s t : State} (h : IrqKeptOrRaised s t) (hs : s.irq9Flag = true → s.irqEvents ≠ [])
    (ht : t.irq9Flag = true) : t.irqEvents ≠ [] := by
  cases h with
  | kept same =>
    obtain ⟨hflag, hevents⟩ := Prod.mk.inj same
    exact hevents ▸ hs (hflag ▸ ht)
  | raised _ rise =>
    obtain ⟨-, hevents⟩ := Prod.mk.inj rise
    simp [hevents]

theorem execute_voices_inv (p : Config.Params) (n : Nat) {s : State} (h : ∀ v, (s.voice v).Inv) (v : VoiceId) :
    ((execute p n s).voice v).Inv :=
  execute_voice_induction p (P := fun u => ∀ v, (u.voice v).Inv) n h (fun i _ hu => sampleVoice_voices_inv p i hu)
    (fun _ _ _ hu => hu) v

/-- A sample takes at most one frame from the FIFO. -/
theorem execute_fifo_le (p : Config.Params) (n : Nat) (s : State) : (execute p n s).cdFifo.length ≤ s.cdFifo.length := by
  refine execute_induction p (fun u => u.cdFifo.length ≤ s.cdFifo.length) n s le_rfl fun u hu => ?_
  rw [generateSample_eq]
  dsimp only
  split
  · exact (List.length_tail ▸ Nat.sub_le _ _).trans hu
  · exact hu

theorem execute_inv (n : Nat) {s : State} (h : s.Inv) : (execute Config.params n s).Inv := by
  obtain ⟨hspucnt, -, -, -, -, -, -, hcursor, -, hdma, hram, hdiags, -⟩ := (onlySampling_execute Config.params n s).fields
  exact
    { ram_wf := hram ▸ h.ram_wf
      carry_lt := execute_ticksCarry_lt Config.params n s
      cursor_even := hcursor ▸ h.cursor_even
      fifo_le := (execute_fifo_le Config.params n s).trans h.fifo_le
      endx_lt := (execute_endxGrows Config.params n s).toNat_lt h.endx_lt
      dma_eq := by rw [hdma, hspucnt, h.dma_eq]
      irq_recorded := (execute_irq Config.params n s).recorded h.irq_recorded
      no_code_four := hdiags ▸ h.no_code_four
      voices_inv := execute_voices_inv Config.params n h.voices_inv }

/-! ## Every effect keeps the invariant -/

/-- KeyOn clears ENDX bits and sets none. -/
theorem writeKon_endx_lt (merge : Word → Word) (mask : Word) {s : State} (h : s.endx.toNat < 2 ^ 24) :
    (writeKon merge mask s).endx.toNat < 2 ^ 24 := by
  refine Nat.lt_pow_two_of_testBit _ fun b hb => ?_
  have hclear : s.endx.getLsbD b = false := Nat.testBit_lt_two_pow (h.trans_le (Nat.pow_le_pow_right (by decide) hb))
  have hbit := writeKon_endx merge mask s b
  rwa [hclear, Bool.false_and] at hbit

theorem writeKon_voices_inv (merge : Word → Word) (mask : Word) {s : State} (h : ∀ v, (s.voice v).Inv) (v : VoiceId) :
    ((writeKon merge mask s).voice v).Inv := by
  rw [writeKon_voice]
  split
  · exact (h v).keyOn
  · exact h v

theorem writeKoff_voices_inv (merge : Word → Word) (mask : Word) {s : State} (h : ∀ v, (s.voice v).Inv) (v : VoiceId) :
    ((writeKoff merge mask s).voice v).Inv := by
  rw [writeKoff_voice]
  split
  · exact (h v).keyOff
  · exact h v

theorem storeReg_inv (v : VoiceId) (reg : Fin 8) (d : Half) {s : State} (h : s.Inv) : (s.mapVoice v (Voice.storeReg reg d)).Inv :=
  { h with
    voices_inv := fun u => by
      rw [State.voice_mapVoice]
      split
      · exact (h.voices_inv v).storeReg reg d
      · exact h.voices_inv u }

theorem diag_inv {c : DiagCode} (hc : c ≠ .voiceIndexOutOfRange) {s : State} (h : s.Inv) : (s.diag c).Inv :=
  { h with
    no_code_four := fun hmem => (List.mem_append.mp hmem).elim h.no_code_four fun hlast => hc (List.mem_singleton.mp hlast).symm }

theorem cdPush_inv (f : Frame) {s : State} (h : s.Inv) : (cdPush Config.params f s).Inv := by
  by_cases full : s.cdFifo.length = Config.params.cdFifoCapacity
  · have hpos : 1 ≤ s.cdFifo.length := full ▸ Nat.succ_pos _
    rw [cdPush_of_full full]
    refine { diag_inv (c := .cdFifoOverflow) (by decide) h with fifo_le := ?_ }
    rw [List.length_append, List.length_tail, List.length_singleton, Nat.sub_add_cancel hpos]
    exact h.fifo_le
  · rw [cdPush_of_not_full full]
    refine { h with fifo_le := ?_ }
    rw [List.length_append, List.length_singleton]
    exact Nat.lt_of_le_of_ne h.fifo_le full

/-- An even cursor stays even when an even number of bytes is transferred: `RAM_SIZE` is even (R23). -/
theorem advance_even {i : RamIndex} (h : i.toNat % 2 = 0) (n : Nat) : (advance i (4 * n)).toNat % 2 = 0 := by
  rw [advance_toNat]
  omega

theorem addressIndex_even (d : Half) : (addressIndex d).toNat % 2 = 0 := by
  rw [addressIndex_toNat]
  omega

theorem pioWrite_inv (d : Half) {s : State} (h : s.Inv) : (pioWrite d s).Inv :=
  { h with
    ram_wf := writeBytes_wf h.ram_wf
    cursor_even := by
      have hcursor := h.cursor_even
      have hsum : (s.cursor + 2).toNat = (s.cursor.toNat + 2) % 0x80000 := BitVec.toNat_add s.cursor 2
      rw [State.pioWrite_cursor, hsum]
      omega }

theorem voiceReset_inv : Voice.reset.Inv := ⟨by decide, by decide, by decide, by decide, by decide, by decide, by decide⟩

/-- Settles O10: zeros, empty lists and reset voices. -/
theorem resetHasTheInvariant : Obligations.ResetHasTheInvariant where
  ram_wf := rfl
  carry_lt := by decide
  cursor_even := rfl
  fifo_le := Nat.zero_le _
  endx_lt := by decide
  dma_eq := by decide
  irq_recorded := nofun
  no_code_four := nofun
  voices_inv v := State.reset_voice v ▸ voiceReset_inv

/-- RESET restores the reset state but for the history, which holds no code 4 and may hold events. -/
theorem resetBlock_inv {s : State} (h : s.Inv) : (resetBlock s).Inv :=
  { resetHasTheInvariant with irq_recorded := nofun, no_code_four := h.no_code_four }

theorem effect_inv (i : Instr) {s : State} (h : s.Inv) : (effect i s).Inv := by
  cases i with
  | wrVolL v d _ => exact storeReg_inv v 0 d h
  | wrVolR v d _ => exact storeReg_inv v 1 d h
  | wrPitch v d _ => exact storeReg_inv v 2 d h
  | wrSaddr v d _ => exact storeReg_inv v 3 d h
  | wrAdsrLo v d _ => exact storeReg_inv v 4 d h
  | wrAdsrHi v d _ => exact storeReg_inv v 5 d h
  | wrAdsrVol v d _ => exact storeReg_inv v 6 d h
  | wrRaddr v d _ => exact storeReg_inv v 7 d h
  | wrKonLo d _ | wrKonHi d _ =>
    exact { h with endx_lt := writeKon_endx_lt _ _ h.endx_lt, voices_inv := writeKon_voices_inv _ _ h.voices_inv }
  | wrKoffLo d _ | wrKoffHi d _ => exact { h with voices_inv := writeKoff_voices_inv _ _ h.voices_inv }
  | wrTaddr d => exact { h with cursor_even := addressIndex_even d }
  | rdTdata | rdUnknown _ | wrUnknown _ _ => exact diag_inv (by decide) h
  | wrTdata d => exact pioWrite_inv d h
  | wrSpucnt d => exact { h with dma_eq := rfl }
  | dmaRead n => exact { h with cursor_even := advance_even h.cursor_even n }
  | dmaWrite ws => exact { h with ram_wf := writeWords_wf h.ram_wf, cursor_even := advance_even h.cursor_even ws.length }
  | cdPush l r =>
    have pushed := cdPush_inv { left := l, right := r } h
    exact { h with fifo_le := pushed.fifo_le, no_code_four := pushed.no_code_four }
  | reset => exact resetBlock_inv h
  | _ => exact { h with }

/-- Settles O9: taking the head of the inbox, the catch-up, the effect and the reply each keep the invariant. -/
theorem stepKeepsTheInvariant : Obligations.StepKeepsTheInvariant := by
  intro s t h hstep
  cases hs : s.inbox with
  | nil => exact Host.Outcome.next.inj ((step_of_inbox_nil hs).symm.trans hstep) ▸ h
  | cons r rest =>
    cases hd : decode r with
    | error e => exact nomatch (step_of_decode_error hs hd).symm.trans hstep
    | ok i =>
      obtain ⟨reply, rfl⟩ := eq_effect_of_exec ((step_of_decode_ok hs hd).symm.trans hstep)
      have taken : State.Inv { s with inbox := rest } := { h with }
      have caught := catchUp_induction i taken fun n => execute_inv n taken
      exact { effect_inv i caught with }

end Sys2Proof.Machine

/-! PROOF of O30 and O32: the DMA round trip, byte by byte at the cursor the write started at, and the transfers under any SPUCNT. -/

namespace Sys2Proof.Machine

/-- Byte `j` of word `k` of a DMA write no longer than the RAM. -/
theorem dmaWriteWords_readByte_word {s : State} (hwf : s.ram.wf = true) {ws : List Word} (hlen : 4 * ws.length ≤ 0x80000)
    {k j : Nat} (hk : k < ws.length) (hj : j < 4) :
    (dmaWriteWords ws s).readByte (s.cursor.toNat + (4 * k + j)) = BitVec.ofNat 8 (ws[k].toNat / 2 ^ (8 * j)) := by
  have hdiv : (4 * k + j) / 4 = k := by omega
  have hmod : (4 * k + j) % 4 = j := by omega
  rw [dmaWriteWords_readByte hwf hlen (by omega)]
  simp only [hdiv, hmod, hk, dif_pos]

/-- A word is its four bytes, low byte first (R47). -/
theorem word_toNat_eq_bytes (w : Word) :
    w.toNat = (BitVec.ofNat 8 (w.toNat / 2 ^ (8 * 0))).toNat + 2 ^ 8 * (BitVec.ofNat 8 (w.toNat / 2 ^ (8 * 1))).toNat +
      2 ^ 16 * (BitVec.ofNat 8 (w.toNat / 2 ^ (8 * 2))).toNat + 2 ^ 24 * (BitVec.ofNat 8 (w.toNat / 2 ^ (8 * 3))).toNat := by
  simp only [BitVec.toNat_ofNat]
  omega

/-- A read of as many words as were written, from the cursor the write started at, gives the words back. -/
theorem dmaReadWords_dmaWriteWords {s : State} (hwf : s.ram.wf = true) {ws : List Word} (hlen : 4 * ws.length ≤ 0x80000) :
    dmaReadWords ws.length { dmaWriteWords ws s with cursor := s.cursor } = ws := by
  refine List.ext_getElem (readWords_length _ _ _) fun k hread hk => BitVec.eq_of_toNat_eq ?_
  have byte {j : Nat} (hj : j < 4) := dmaWriteWords_readByte_word hwf hlen hk hj
  rw [dmaReadWords_getElem_toNat _ _ hread, word_toNat_eq_bytes ws[k], ← byte (j := 0) (by decide), ← byte (j := 1) (by decide),
    ← byte (j := 2) (by decide), ← byte (j := 3) (by decide)]
  rfl

/-- Settles O30: the words read are those written, and both transfers advance the same cursor by the same length. -/
theorem dmaReadReturnsWhatDmaWriteStored : Obligations.DmaReadReturnsWhatDmaWriteStored := by
  intro ws s t hwf hlen h
  obtain rfl := Host.Outcome.next.inj ((exec_dmaWrite ws s).symm.trans h)
  exact ⟨_, exec_dmaRead _ _, congrArg Reply.words (dmaReadWords_dmaWriteWords hwf hlen), rfl, rfl⟩

/-- Settles O32: none of the three transfers reads SPUCNT. -/
theorem transferModeGatesNoTransfer : Obligations.TransferModeGatesNoTransfer := by
  intro m d ws n s t
  refine ⟨fun h => ?_, fun h => ?_, fun h => ?_⟩ <;> obtain rfl := Host.Outcome.next.inj h <;> rfl

end Sys2Proof.Machine

/-! PROOF of O35 and O38: key control and the envelope. Two KeyOns write two voices and two ENDX bits; the slow attack is one voice
whose level alone moves until it reaches the top. -/

namespace Sys2Proof.Machine

/-! ## KeyOn of two voices (R95, D26) -/

theorem keyOn_endx_getLsbD (p : Config.Params) (v : VoiceId) (s : State) (b : Nat) :
    (keyOn p v s).endx.getLsbD b = (s.endx.getLsbD b && !(p.endxClearOnKeyOn && decide (b = v.val))) :=
  clearEndx_getLsbD p v s b

theorem keyOn_frame (p : Config.Params) (v : VoiceId) (s : State) :
    keyOn p v s = { s with voices := (keyOn p v s).voices, endx := (keyOn p v s).endx } := rfl

/-- Settles O35: the voices agree voice by voice, ENDX bit by bit, and KeyOn writes nothing else. -/
theorem keyOnOrderIsUnobservable : Obligations.KeyOnOrderIsUnobservable := by
  intro p u v s huv
  have voice (w : VoiceId) : (keyOn p u (keyOn p v s)).voice w = (keyOn p v (keyOn p u s)).voice w := by
    simp only [State.voice_keyOn, if_neg huv, if_neg huv.symm]
    by_cases hu : w = u
    · subst hu
      simp only [if_pos, if_neg huv]
    · simp only [if_neg hu]
  have endx : (keyOn p u (keyOn p v s)).endx = (keyOn p v (keyOn p u s)).endx := by
    apply BitVec.eq_of_getLsbD_eq
    intro b _
    simp only [keyOn_endx_getLsbD]
    exact Bool.and_right_comm _ _ _
  have frame (a b : VoiceId) : keyOn p a (keyOn p b s) =
      { s with voices := (keyOn p a (keyOn p b s)).voices, endx := (keyOn p a (keyOn p b s)).endx } := by
    rw [keyOn_frame p a (keyOn p b s)]
    rfl
  rw [frame u v, State.voices_ext voice, endx, ← frame v u]

/-! ## The slow attack (70_reset_and_hazards.md section 3) -/

/-- The voice `k` ticks into an attack that climbs by 6. -/
def Voice.climbed (v : Voice) (k : Nat) : Voice := { v.keyOn with adsrVolume := toS16 (6 * k) }

theorem Voice.climbed_level {v : Voice} {k : Nat} (hk : k ≤ 5461) : (v.climbed k).adsrVolume.toInt = 6 * k :=
  toInt_toS16 (by omega) (by omega)

section
variable {v : Voice} (hv : v.adsrLow.toNat / 2 ^ 8 % 2 ^ 7 = 0x28)
include hv

/-- `attack_shift` 10 and `attack_step` 0. -/
theorem slowAttack_target :
    phaseTarget .attack v.adsrLow v.adsrHigh =
      { level := 0x7FFF, step := 4, shift := 10, decreasing := false, exponential := attackExp v.adsrLow } := by
  have hshift : attackShift v.adsrLow = 10 := by
    rw [attackShift_eq]
    omega
  have hstep : attackStep v.adsrLow = 0 := by
    rw [attackStep_eq]
    omega
  simp only [phaseTarget, hshift, hstep]

/-- The level goes up by 6 at every tick. -/
theorem slowAttack_step (k : Nat) :
    (v.climbed k).target.decreasing = false ∧ (v.climbed k).target.level = 0x7FFF ∧ (v.climbed k).adsrStep = 6 ∧
      (v.climbed k).adsrTicks = 1#32 ∧ (v.climbed k).adsrTicksRemaining = 1#32 := by
  simp only [Voice.climbed, Voice.keyOn_target, Voice.keyOn_adsrStep, Voice.keyOn_adsrTicks, Voice.keyOn_adsrTicksRemaining,
    slowAttack_target hv]
  exact ⟨trivial, trivial, rfl, rfl, rfl⟩

theorem slowAttack_nextLevel {k : Nat} (hk : k ≤ 5461) : (v.climbed k).nextLevel = min (6 * (k + 1)) 0x7FFF := by
  obtain ⟨-, -, hstep, -⟩ := slowAttack_step hv k
  rw [Voice.nextLevel, Voice.climbed_level hk, hstep, clamp]
  omega

theorem slowAttack_reached {k : Nat} (hk : k ≤ 5461) :
    reachedTarget (v.climbed k).target (v.climbed k).nextLevel = true ↔ k = 5461 := by
  obtain ⟨hdecreasing, hlevel, -⟩ := slowAttack_step hv k
  rw [reachedTarget_iff, hdecreasing, hlevel, slowAttack_nextLevel hv hk]
  simp only [Bool.false_eq_true, false_and, false_or, true_and]
  omega

/-- Below the top a tick moves the level alone: the count is 1 again. -/
theorem tickAdsr_climbed {k : Nat} (hk : k < 5461) : (v.climbed k).tickAdsr = v.climbed (k + 1) := by
  obtain ⟨-, -, -, hticks, hremaining⟩ := slowAttack_step hv k
  have notReached := mt (slowAttack_reached hv hk.le).mp hk.ne
  have hlevel : (v.climbed k).nextLevel = 6 * ((k + 1 : Nat) : Int) := by
    rw [slowAttack_nextLevel hv hk.le]
    omega
  rw [Voice.tickAdsr_of_not_reached hremaining (.inr notReached), hlevel, hticks, ← hremaining]
  rfl

theorem iterate_tickAdsr_keyOn {k : Nat} (hk : k ≤ 5461) : Voice.tickAdsr^[k] v.keyOn = v.climbed k := by
  induction k with
  | zero => rfl
  | succ k ih => rw [Function.iterate_succ_apply', ih (by omega), tickAdsr_climbed hv hk]

/-- The tick at the top enters Decay with the level at 0x7FFF. -/
theorem tickAdsr_top : (v.climbed 5461).tickAdsr.phase = .decay ∧ (v.climbed 5461).tickAdsr.adsrVolume.toInt = 0x7FFF := by
  obtain ⟨-, -, -, -, hremaining⟩ := slowAttack_step hv 5461
  have reached := (slowAttack_reached hv le_rfl).mpr rfl
  constructor
  · rw [Voice.tickAdsr_of_reached hremaining nofun reached]
    rfl
  · rw [Voice.tickAdsr_adsrVolume hremaining, toInt_toS16_nextLevel, slowAttack_nextLevel hv le_rfl]
    rfl

end

/-- Settles O38: 5461 ticks climb by 6 each, and the next one reaches the top. -/
theorem slowAttackClimbsBySixAndPeaksAtTick5462 : Obligations.SlowAttackClimbsBySixAndPeaksAtTick5462 := by
  intro v hv
  refine ⟨fun k hk => ?_, ?_⟩
  · rw [iterate_tickAdsr_keyOn hv hk]
    exact ⟨rfl, Voice.climbed_level hk⟩
  · rw [Function.iterate_succ_apply', iterate_tickAdsr_keyOn hv le_rfl]
    exact tickAdsr_top hv

end Sys2Proof.Machine

/-! PROOF of O40: with filter 0 the predictor adds nothing, and a quantized nibble is in the range of an `s16`. -/

namespace Sys2Proof.Machine

theorem predict_zero (raw l0 l1 : Int) : predict 0 raw l0 l1 = raw := by
  simp [predict, predictorPos, predictorNeg, tdiv]

/-- Shifting right brings a value towards 0 or -1, so it stays within bounds that hold both. -/
theorem asr_mem {x lo hi : Int} (hlo : lo ≤ x) (hhi : x ≤ hi) (hneg : lo ≤ 0) (hpos : 0 ≤ hi) (k : Nat) :
    lo ≤ asr x k ∧ asr x k ≤ hi := by
  have hpow : (1 : Int) ≤ 2 ^ k := one_le_pow₀ (by decide)
  constructor
  · exact Int.le_ediv_of_mul_le (by omega) ((mul_le_of_one_le_right hneg hpow).trans hlo)
  · exact Int.ediv_le_of_le_mul (by omega) (hhi.trans (le_mul_of_one_le_right hpos hpow))

/-- A quantized nibble is -32768 to 28672 (R138). -/
theorem quantize_mem (x : BitVec 4) (shift : Nat) : -32768 ≤ quantize x shift ∧ quantize x shift ≤ 28672 := by
  have hlo : -8 ≤ x.toInt := BitVec.le_toInt x
  have hhi : x.toInt < 8 := BitVec.toInt_lt
  exact asr_mem (by omega) (by omega) (by omega) (by omega) shift

/-- Settles O40: each predictor output is its nibble's, which the clamp leaves alone. -/
theorem filterZeroSamplesAreTheQuantizedNibbles : Obligations.FilterZeroSamplesAreTheQuantizedNibbles := by
  intro v blk n hfilter
  obtain ⟨hlo, hhi⟩ := quantize_mem (blockNibble blk n) ((blk 0).toNat % 16)
  refine ⟨?_, hlo, hhi⟩
  let d : Decoder := { samples := v.blockSamples, last0 := v.last0, last1 := v.last1 }
  obtain ⟨-, -, hsamples⟩ := d.after_eq_history blk le_rfl
  have hzero : blockFilter blk = 0 := by rw [blockFilter_eq, hfilter, Nat.zero_min]
  rw [Voice.decodeBlock_blockSamples, decodeSamples_eq_after, hsamples n n.isLt, toInt_toS16_clampS16, d.history_add_two, hzero,
    predict_zero, blockShift_eq]
  exact clamp_of_mem hlo (by omega)

end Sys2Proof.Machine

/-! PROOF of O47 and O48: the volume stages of one voice (44_sample_generator.md section 4). Both products are of values of 16 bits and
a sign, so the shift brings them back to that range. -/

namespace Sys2Proof.Machine

/-! ## Decoding a volume (R31) -/

theorem decodeVolume_of_fixed (p : Config.Params) (draw : Nat) {v : Half} (h : v.getLsbD 15 = false) :
    decodeVolume p draw v = (p.decodeVolume v).toInt := congrArg BitVec.toInt (if_neg (Bool.eq_false_iff.mp h))

/-- Whatever the mode, the multiplier is some `s16`. -/
theorem exists_decodeVolume_eq (p : Config.Params) (draw : Nat) (v : Half) : ∃ m : Half, decodeVolume p draw v = m.toInt :=
  ⟨_, rfl⟩

/-- The spec's default is twice the signed low 15 bits, which 16 bits hold. -/
theorem defaultDecodeVolume_toInt (v : Half) : (defaultDecodeVolume v).toInt = Int.bmod v.toNat (2 ^ 15) * 2 := by
  have low : (v.extractLsb' 0 15).toInt = Int.bmod v.toNat (2 ^ 15) := by
    rw [BitVec.toInt_eq_toNat_bmod, extractLsb'_toNat_eq, pow_zero, Nat.div_one, Int.natCast_mod]
    exact Int.emod_bmod _ _
  have hlo : -16384 ≤ (v.extractLsb' 0 15).toInt := BitVec.le_toInt _
  have hhi : (v.extractLsb' 0 15).toInt < 16384 := BitVec.toInt_lt
  rw [defaultDecodeVolume, toInt_toS16 (by omega) (by omega), low]

/-! ## The two channels of an on voice (R158 to R160) -/

section
variable (p : Config.Params) {i : VoiceId} {s : State} (on : (s.voice i).phase ≠ .off)
include on

theorem sampleVoice_left_of_on :
    let a := (advanceVoice i s).voice i
    (sampleVoice p i s).left = applyVolume (a.voiced p) (decodeVolume p (advanceVoice i s).draws a.volumeLeft) := by
  intro a
  have hleft : a.tickAdsr.volumeLeft = a.volumeLeft := loadReg_of_hostRegs (reg := 0) a.hostRegs_tickAdsr (by decide)
  rw [sampleVoice_of_on p on, volumeStep, State.voice_mapVoice_self, hleft, State.mapVoice_draws]

theorem sampleVoice_right_of_on :
    let a := (advanceVoice i s).voice i
    (sampleVoice p i s).right = applyVolume (a.voiced p)
      (decodeVolume p ((advanceVoice i s).draws + volumeDraws a.volumeLeft) a.volumeRight) := by
  intro a
  have hleft : a.tickAdsr.volumeLeft = a.volumeLeft := loadReg_of_hostRegs (reg := 0) a.hostRegs_tickAdsr (by decide)
  have hright : a.tickAdsr.volumeRight = a.volumeRight := loadReg_of_hostRegs (reg := 1) a.hostRegs_tickAdsr (by decide)
  rw [sampleVoice_of_on p on, volumeStep, State.voice_mapVoice_self, hleft, hright, State.mapVoice_draws]

/-- Beside the draw counter, steps 5 to 8 tick the envelope and change nothing. -/
theorem onlyVoice_sampleVoice :
    OnlyVoice i ((advanceVoice i s).voice i).tickAdsr { advanceVoice i s with draws := (sampleVoice p i s).state.draws }
      (sampleVoice p i s).state := by
  obtain ⟨draws, hstate⟩ := sampleVoice_state_of_on p on
  rw [hstate]
  generalize advanceVoice i s = a
  exact onlyVoice_mapVoice i Voice.tickAdsr { a with draws := draws }

end

/-- Settles O47: each channel is the voiced value times its own multiplier, which the three clauses describe. -/
theorem onVoiceContributionIsItsScaledSample : Obligations.OnVoiceContributionIsItsScaledSample := by
  intro p i s on a voiced r
  have scaled {m : Int} {x : Half} {draw : Nat} (h : m = applyVolume (a.voiced p) (decodeVolume p draw x)) :
      (x.getLsbD 15 = false → m = voiced * (p.decodeVolume x).toInt / 32768) ∧
      ((∀ x : Half, x.getLsbD 15 = false → p.decodeVolume x = defaultDecodeVolume x) → x.getLsbD 15 = false →
        m = voiced * (Int.bmod x.toNat (2 ^ 15) * 2) / 32768) ∧ ∃ y : Half, m = voiced * y.toInt / 32768 := by
    have fixed (hx : x.getLsbD 15 = false) : m = voiced * (p.decodeVolume x).toInt / 32768 := by
      rw [h, decodeVolume_of_fixed p draw hx]
      rfl
    refine ⟨fixed, fun hdefault hx => ?_, ?_⟩
    · rw [fixed hx, hdefault x hx, defaultDecodeVolume_toInt]
    · obtain ⟨y, hy⟩ := exists_decodeVolume_eq p draw x
      exact ⟨y, by rw [h, hy]; rfl⟩
  obtain ⟨leftFixed, leftDefault, leftSome⟩ := scaled (sampleVoice_left_of_on p on)
  obtain ⟨rightFixed, rightDefault, rightSome⟩ := scaled (sampleVoice_right_of_on p on)
  exact ⟨onlyVoice_sampleVoice p on, leftFixed, rightFixed, fun h => ⟨leftDefault h, rightDefault h⟩, leftSome, rightSome⟩

/-! ## Bounds (R146) -/

theorem half_toInt_mem (x : Half) : -32768 ≤ x.toInt ∧ x.toInt ≤ 32767 :=
  ⟨BitVec.le_toInt x, Int.le_of_lt_add_one BitVec.toInt_lt⟩

theorem abs_half_toInt_le (x : Half) : |x.toInt| ≤ 32768 := by
  obtain ⟨hlo, hhi⟩ := half_toInt_mem x
  exact abs_le.mpr ⟨hlo, by omega⟩

/-- A volume stage does not leave the range of 16 bits and a sign. -/
theorem abs_applyVolume_le {a b : Int} (ha : |a| ≤ 32768) (hb : |b| ≤ 32768) : |applyVolume a b| ≤ 32768 := by
  have product : |a * b| ≤ 32768 * 32768 := by
    rw [abs_mul]
    exact mul_le_mul ha hb (abs_nonneg b) (by decide)
  obtain ⟨hlo, hhi⟩ := abs_le.mp product
  rw [applyVolume, asr, abs_le]
  omega

theorem Voice.abs_voiced_le (p : Config.Params) (v : Voice) : |v.voiced p| ≤ 32768 :=
  abs_applyVolume_le (abs_half_toInt_le _) (abs_half_toInt_le _)

theorem abs_sampleVoice_le (p : Config.Params) (i : VoiceId) (s : State) :
    |(sampleVoice p i s).left| ≤ 32768 ∧ |(sampleVoice p i s).right| ≤ 32768 := by
  by_cases off : (s.voice i).phase = .off
  · rw [sampleVoice_of_off p off]
    simp
  · rw [sampleVoice_left_of_on p off, sampleVoice_right_of_on p off]
    exact ⟨abs_applyVolume_le (Voice.abs_voiced_le p _) (abs_half_toInt_le _),
      abs_applyVolume_le (Voice.abs_voiced_le p _) (abs_half_toInt_le _)⟩

/-- Settles O48: the interpolated sample and the multipliers are `s16`s, so each of the two stages keeps the range. -/
theorem voiceContributionsAreBounded : Obligations.VoiceContributionsAreBounded := by
  intro p i s
  obtain ⟨hleft, hright⟩ := abs_sampleVoice_le p i s
  obtain ⟨leftLo, leftHi⟩ := abs_le.mp hleft
  exact ⟨fun v => abs_le.mp (v.abs_voiced_le p), leftLo, leftHi, abs_le.mp hright⟩

end Sys2Proof.Machine

/-! PROOF of O49, O51 to O56 and O60: samples and Execute. Execute is a number of samples, then a carry and a reply, which no
sample reads; what those samples are is found for the units in which at most one voice, or the CD alone, sounds. -/

namespace Sys2Proof.Machine

/-! ## Execute as samples, a carry and a reply (R144) -/

/-- `s` with a carry and a reply of its own. -/
def State.stamp (s : State) (carry : Nat) (reply : Reply) : State := { s with ticksCarry := carry, reply := reply }

/-- The fields that no sample reads, as `s` has them. -/
def Unread.own (s : State) : Unread where
  spucnt := s.spucnt
  mainVolL := s.mainVolL
  mainVolR := s.mainVolR
  kon := s.kon
  koff := s.koff
  eon := s.eon
  taddr := s.taddr
  cursor := s.cursor
  ticksCarry := s.ticksCarry
  dmaRequest := s.dmaRequest
  diags := s.diags
  inbox := s.inbox
  reply := s.reply

/-- Samples neither read nor write the carry and the reply. -/
theorem generateSamples_stamp (p : Config.Params) (n : Nat) (s : State) (carry : Nat) (reply : Reply) :
    generateSamples p n (s.stamp carry reply) = (generateSamples p n s).stamp carry reply := by
  let u : Unread := { Unread.own s with ticksCarry := carry, reply := reply }
  have put : generateSamples p n (u.put s) = u.put (generateSamples p n s) := generateSamples_put p n ⟨rfl, rfl, rfl⟩
  obtain ⟨h1, h2, h3, h4, h5, h6, h7, h8, -, h10, -, h12, h13, -⟩ := (onlySampling_generateSamples p n s).fields
  have own : u.put (generateSamples p n s) = (generateSamples p n s).stamp carry reply := by
    simp only [u, Unread.put, Unread.own, State.stamp, h1, h2, h3, h4, h5, h6, h7, h8, h10, h12, h13]
  exact put.trans own

theorem execute_of_enabled (p : Config.Params) {s : State} (h : s.spucnt.getLsbD 15 = true ∨ s.spucnt.getLsbD 0 = true)
    (n : Nat) : execute p n s =
      generateSamples p ((n + s.ticksCarry) / 0x300) (s.stamp ((n + s.ticksCarry) % 0x300) s.reply) :=
  if_pos (Bool.or_eq_true_iff.mpr h)

theorem execute_of_disabled (p : Config.Params) {s : State} (h : ¬(s.spucnt.getLsbD 15 = true ∨ s.spucnt.getLsbD 0 = true))
    (n : Nat) : execute p n s = s.stamp ((n + s.ticksCarry) % 0x300) s.reply :=
  if_neg (mt Bool.or_eq_true_iff.mp h)

/-- How many samples an Execute of `n` ticks generates: none in a unit that is fully disabled. -/
def sampleCount (n : Nat) (s : State) : Nat :=
  if s.spucnt.getLsbD 15 = true ∨ s.spucnt.getLsbD 0 = true then (n + s.ticksCarry) / 0x300 else 0

theorem sampleCount_of_enabled {s : State} (h : s.spucnt.getLsbD 15 = true ∨ s.spucnt.getLsbD 0 = true) (n : Nat) :
    sampleCount n s = (n + s.ticksCarry) / 0x300 := if_pos h

theorem sampleCount_of_disabled {s : State} (h : ¬(s.spucnt.getLsbD 15 = true ∨ s.spucnt.getLsbD 0 = true)) (n : Nat) :
    sampleCount n s = 0 := if_neg h

/-- Execute is its samples, with the carry and the reply set. -/
theorem executed_eq (n : Nat) (s : State) :
    executed n s = (generateSamples Config.params (sampleCount n s) s).stamp ((n + s.ticksCarry) % 0x300) .none := by
  by_cases h : s.spucnt.getLsbD 15 = true ∨ s.spucnt.getLsbD 0 = true
  · rw [executed, execute_of_enabled _ h, sampleCount_of_enabled h, generateSamples_stamp]
    rfl
  · rw [executed, execute_of_disabled _ h, sampleCount_of_disabled h]
    rfl

theorem executed_ticksCarry (n : Nat) (s : State) : (executed n s).ticksCarry = (n + s.ticksCarry) % 0x300 := by
  rw [executed_eq]
  rfl

theorem generateSamples_eq_iterate (p : Config.Params) (n : Nat) (s : State) :
    generateSamples p n s = (generateSample p)^[n] s := by
  induction n generalizing s with
  | zero => rfl
  | succ n ih => rw [generateSamples, ih, Function.iterate_succ_apply]

theorem generateSamples_frames_length (p : Config.Params) (n : Nat) (s : State) :
    (generateSamples p n s).frames.length = s.frames.length + n := by
  induction n generalizing s with
  | zero => rfl
  | succ n ih =>
    rw [generateSamples, ih, generateSample_eq]
    simp only [List.length_append, List.length_singleton]
    omega

/-- Settles O51: what executing `n` ticks answers, with the samples as iterations. -/
theorem executeEmitsOneFrameForEachSample : Obligations.ExecuteEmitsOneFrameForEachSample := by
  intro n s
  have only : OnlySampling { s with reply := .none } (executed n s) :=
    congrArg (State.withReply · .none) (onlySampling_execute Config.params n s)
  have carry := executed_ticksCarry n s
  have ram : (executed n s).ram = s.ram := by
    obtain ⟨-, -, -, -, -, -, -, -, -, -, hram, -⟩ := only.fields
    exact hram
  refine ⟨decode_encode_execute n, executed n s, exec_execute n s, only, carry, ?frames, fun enabled => ?samples, fun a => ?byte⟩
  case frames =>
    rw [executed_eq]
    exact generateSamples_frames_length Config.params (sampleCount n s) s
  case samples =>
    rw [← generateSamples_eq_iterate, carry, executed_eq, sampleCount_of_enabled enabled]
    exact congrArg (State.withReply · .none) (generateSamples_stamp Config.params _ s _ s.reply).symm
  case byte => rw [State.readByte, ram, State.readByte]

/-- Settles O52: the fields named are among those no sample reads or writes. -/
theorem mainVolumeReverbAndStoredControlBitsReachNoSample : Obligations.MainVolumeReverbAndStoredControlBitsReachNoSample := by
  intro n l r c e s t henable hirq hcd h
  let u : Unread := { Unread.own s with mainVolL := l, mainVolR := r, eon := e, spucnt := c }
  have agrees : u.Agrees s := ⟨henable, hirq, hcd⟩
  have count : sampleCount n (u.put s) = sampleCount n s := by
    have hspucnt : (u.put s).spucnt = c := rfl
    rw [sampleCount, hspucnt, henable, hcd]
    rfl
  obtain ⟨-, -, -, h4, h5, -, h7, h8, -, h10, -, h12, h13, -⟩ :=
    (onlySampling_generateSamples Config.params (sampleCount n s) s).fields
  rw [eq_executed_of_exec h]
  refine congrArg Host.Outcome.next (Eq.trans (executed_eq n (u.put s)) ?_)
  rw [count, generateSamples_put Config.params _ agrees, executed_eq]
  simp only [u, Unread.put, Unread.own, State.stamp, h4, h5, h7, h8, h10, h12, h13]

/-- The carry makes the counts add up. -/
theorem sampleCount_add (m n : Nat) (s : State) :
    sampleCount m s + sampleCount n (executed m s) = sampleCount (m + n) s := by
  obtain ⟨hspucnt, -⟩ := (onlySampling_execute Config.params m s).fields
  have hspucnt : (executed m s).spucnt = s.spucnt := hspucnt
  rw [sampleCount, sampleCount, sampleCount, hspucnt, executed_ticksCarry]
  split <;> omega

/-- Settles O53: the samples of the two parts are those of the sum, and the last carry and reply are the ones that stay. -/
theorem executeInTwoPartsIsExecuteOfTheSum : Obligations.ExecuteInTwoPartsIsExecuteOfTheSum := by
  intro m n s t h
  rw [eq_executed_of_exec h, exec_execute, exec_execute, executed_eq n, executed_eq (m + n), ← sampleCount_add m n s,
    generateSamples_add]
  have carry : (n + (executed m s).ticksCarry) % 0x300 = (m + n + s.ticksCarry) % 0x300 := by
    rw [executed_ticksCarry]
    omega
  rw [carry]
  generalize sampleCount n (executed m s) = b
  rw [executed_eq, generateSamples_stamp]
  rfl

/-- Settles O54: a fully disabled unit generates no sample. -/
theorem disabledUnitOnlyMovesTheCarry : Obligations.DisabledUnitOnlyMovesTheCarry := by
  intro n s henable hcd
  rw [exec_execute, executed_eq, sampleCount_of_disabled (by rw [henable, hcd]; decide)]
  rfl

/-! ## One sample in a quiet unit (R145, R147, R149) -/

/-- The silent frame. -/
abbrev silence : Frame := { left := 0, right := 0 }

/-- A frame of the CD passes the final clamp as it is. -/
theorem clamped_frame (f : Frame) :
    ({ left := toS16 (clampS16 (0 + f.left.toInt)), right := toS16 (clampS16 (0 + f.right.toInt)) } : Frame) = f := by
  have channel (x : Half) : toS16 (clampS16 (0 + x.toInt)) = x := by
    obtain ⟨hlo, hhi⟩ := half_toInt_mem x
    rw [zero_add, clampS16, clamp_of_mem hlo hhi, toS16, BitVec.ofInt_toInt]
  rw [channel, channel]

/-- With `enable` 0 and CD audio on a sample is the next CD frame, or silence. -/
theorem generateSample_of_cdAlone (p : Config.Params) {s : State} (henable : s.enable = false) (hcd : s.cdAudioEnable = true) :
    generateSample p s = { s with cdFifo := s.cdFifo.tail, frames := s.frames ++ [s.cdFifo.headD silence] } := by
  rw [generateSample_eq, mixVoices_of_disabled p (by simp [henable])]
  simp only [hcd, if_true, clamped_frame]

theorem generateSamples_of_cdAlone (p : Config.Params) (k : Nat) {s : State} (henable : s.enable = false)
    (hcd : s.cdAudioEnable = true) :
    generateSamples p k s =
      { s with
        cdFifo := s.cdFifo.drop k
        frames := s.frames ++ (s.cdFifo.take k ++ List.replicate (k - s.cdFifo.length) silence) } := by
  induction k generalizing s with
  | zero => simp [generateSamples]
  | succ k ih =>
    rw [generateSamples, generateSample_of_cdAlone p henable hcd, ih (by exact henable) (by exact hcd)]
    cases hfifo : s.cdFifo with
    | nil => simp [List.replicate_succ]
    | cons f fs => simp

/-- Settles O55: the samples of an Execute with the CD alone. -/
theorem cdAudioAlonePlaysTheFifoThenSilence : Obligations.CdAudioAlonePlaysTheFifoThenSilence := by
  intro n s henable hcd k
  rw [exec_execute, executed_eq, sampleCount_of_enabled (.inr hcd), generateSamples_of_cdAlone Config.params _ henable hcd]
  rfl

/-- Voices that are Off add nothing to a mix. -/
theorem foldl_mixVoice_of_off (p : Config.Params) {vs : List VoiceId} {m : Mixed}
    (h : ∀ v ∈ vs, (m.state.voice v).phase = .off) : vs.foldl (mixVoice p) m = m := by
  induction vs with
  | nil => rfl
  | cons v vs ih =>
    obtain ⟨hv, hvs⟩ := List.forall_mem_cons.mp h
    have keep : mixVoice p m v = m := by simp [mixVoice, sampleVoice_of_off p hv]
    rw [List.foldl_cons, keep, ih hvs]

/-- The mix of a unit in which one voice alone may be on is that voice's sample. -/
theorem mixVoices_of_lone (p : Config.Params) {i : VoiceId} {s : State} (henable : s.enable = true)
    (h : ∀ u, u ≠ i → (s.voice u).phase = .off) : mixVoices p s = sampleVoice p i s := by
  obtain ⟨before, after, hsplit⟩ := List.append_of_mem (List.mem_finRange i)
  have hall : allVoices = before ++ i :: after := hsplit
  have hother : ∀ v ∈ before ++ after, v ≠ i := by
    have nodup : (before ++ i :: after).Nodup := hsplit ▸ List.nodup_finRange 24
    rintro v hv rfl
    exact (List.nodup_cons.mp (List.nodup_middle.mp nodup)).1 hv
  have alone : mixVoice p { state := s, left := 0, right := 0 } i = sampleVoice p i s := by simp [mixVoice]
  rw [mixVoices, if_pos henable, hall, List.foldl_append, List.foldl_cons,
    foldl_mixVoice_of_off p fun v hv => h v (hother v (List.mem_append_left _ hv)), alone]
  refine foldl_mixVoice_of_off p fun v hv => ?_
  have hv : v ≠ i := hother v (List.mem_append_right _ hv)
  rw [sampleVoice_voice_ne p s hv]
  exact h v hv

/-- Settles O49: the mix is the voice's sample, and the CD adds nothing. -/
theorem loneVoiceFrameIsItsClampedPair : Obligations.LoneVoiceFrameIsItsClampedPair := by
  intro p i s henable hcd h r
  have hcd' : s.cdAudioEnable = false := hcd
  obtain ⟨-, hfifo⟩ := Prod.mk.inj (frameQueues_sampleVoice p i s)
  rw [generateSample_eq, mixVoices_of_lone p henable h, hcd']
  have hzero : (0 : Half).toInt = 0 := rfl
  simp only [Bool.false_eq_true, if_false, hzero, add_zero, ← hfifo]
  rfl

/-- With every voice Off and no CD audio a sample is a silent frame. -/
theorem generateSample_of_allOff (p : Config.Params) {s : State} (henable : s.enable = true) (hcd : s.cdAudioEnable = false)
    (h : ∀ v, (s.voice v).phase = .off) : generateSample p s = { s with frames := s.frames ++ [silence] } := by
  rw [generateSample_eq, mixVoices, if_pos henable, foldl_mixVoice_of_off p fun v _ => h v, hcd]
  rfl

theorem generateSamples_of_allOff (p : Config.Params) (k : Nat) {s : State} (henable : s.enable = true)
    (hcd : s.cdAudioEnable = false) (h : ∀ v, (s.voice v).phase = .off) :
    generateSamples p k s = { s with frames := s.frames ++ List.replicate k silence } := by
  induction k generalizing s with
  | zero => simp [generateSamples]
  | succ k ih =>
    rw [generateSamples, generateSample_of_allOff p henable hcd h, ih (by exact henable) (by exact hcd) (by exact h)]
    simp [List.replicate_succ]

/-- Settles O56: the samples of an Execute with every voice Off. -/
theorem allVoicesOffEmitSilence : Obligations.AllVoicesOffEmitSilence := by
  intro n s henable hcd h
  rw [exec_execute, executed_eq, sampleCount_of_enabled (.inl henable), generateSamples_of_allOff Config.params _ henable hcd h]
  rfl

/-! ## After RESET (R177, R178) -/

/-- Settles O60: RESET disables the unit, so Execute moves the carry of a block at its reset values. -/
theorem blockIsQuietAfterReset : Obligations.BlockIsQuietAfterReset := by
  intro n s t u hreset hexec
  obtain rfl := Host.Outcome.next.inj ((exec_reset s).symm.trans hreset)
  have disabled (b : Nat) : ((resetBlock s).withReply .none).spucnt.getLsbD b = false := BitVec.getLsbD_zero
  obtain rfl := Host.Outcome.next.inj ((disabledUnitOnlyMovesTheCarry n _ (disabled 15) (disabled 0)).symm.trans hexec)
  exact ⟨rfl, rfl, rfl, rfl, fun v => congrArg Voice.phase (State.resetBlock_voice s v)⟩

end Sys2Proof.Machine
